-- ==== Sys2Proof/Word.lean ====
section
/-! DEFINITION. The word types of the bridge: a byte, a 32-bit bus word or address, a 64-byte block. -/

namespace Sys2Proof

/-- One byte of a block, of a frame or of a host word. -/
abbrev Byte := BitVec 8

/-- A 32-bit bus word, colour or byte address. -/
abbrev Word := BitVec 32

/-- The 64 bytes of one memory block (R112, Table 7-1); byte `k` lies at block address + `k`. -/
abbrev Block := Vector Byte 64

end Sys2Proof
end

