-- ==== Sys2Proof/Syntax.lean ====
section
/-! DEFINITION. The commands of the bridge: one constructor for each row of spec/opcode_table.json. -/

namespace Sys2Proof

/-- One host word access as the request channel presents it (R125, Figure 8-1). -/
structure Access where
  /-- H_WRITE: high for a write. -/
  write : Bool
  /-- H_ADDR[31:2]: the word address. -/
  addr : BitVec 30
  /-- H_BE[3:0]: bit `k` enables host byte `k` of a write. -/
  be : BitVec 4
  /-- H_WDATA[31:0]: bits 8k+7 to 8k are host byte `k`. -/
  wdata : Word
  deriving DecidableEq, Repr

/-- The status of a memory side response (Table 7-1). -/
inductive RespStatus where
  | ok
  | err
  deriving DecidableEq, Repr

/-- The parameters of SET_SURFACE, in frame order (R157, Table 10-7). -/
structure SurfaceParams where
  index : Byte
  format : Byte
  base : Word
  pitch : BitVec 16
  width : BitVec 16
  height : BitVec 16
  deriving DecidableEq, Repr

/-- The parameters of SET_WINDOW, in frame order (R158, Table 10-9). -/
structure WindowParams where
  index : Byte
  kind : Byte
  options : Byte
  surface : Byte
  hostBase : Word
  originX : BitVec 16
  originY : BitVec 16
  width : BitVec 16
  height : BitVec 16
  clipLeft : BitVec 16
  clipTop : BitVec 16
  clipRight : BitVec 16
  clipBottom : BitVec 16
  foreground : Word
  background : Word
  key : Word
  keyMask : Word
  deriving DecidableEq, Repr

/-- The commands of the block, one constructor for each row of spec/opcode_table.json, in the table's order.
Each is one whole event (R38, R111, R149). -/
inductive Instr where
  /-- REQUEST_HANDSHAKE (R125): what the host drives on the request channel, an access with H_VALID high, or `none` with
  H_VALID low, which withdraws an access that was presented and not taken (notes/assumptions/4.md). -/
  | requestHandshake (r : Option Access)
  /-- ENTRY_ANSWERED (R130). -/
  | entryAnswered
  /-- ISSUE (R96, R110): the partner is ready to take a command. -/
  | issue
  /-- MEMORY_RESPONSE (R111): the partner presents a response with these 64 data bytes on its lines. -/
  | memoryResponse (tag : Fin 8) (status : RespStatus) (data : Block)
  /-- EXPIRY (R117): the timer of this tag reaches its deadline. -/
  | expiry (tag : Fin 8)
  /-- GET_STATUS (R155). -/
  | getStatus
  /-- CONFIGURE (R156). -/
  | configure (timeout enables : Byte)
  /-- ACK_NOTICE (R142, R156). -/
  | ackNotice (mask : Byte)
  /-- SET_SURFACE (R9). -/
  | setSurface (p : SurfaceParams)
  /-- DROP_SURFACE (R11). -/
  | dropSurface (index : Byte)
  /-- READ_SURFACE (R12). -/
  | readSurface (index : Byte)
  /-- SET_WINDOW (R21). -/
  | setWindow (p : WindowParams)
  /-- OPEN_WINDOW (R23). -/
  | openWindow (index : Byte)
  /-- CLOSE_WINDOW (R28). -/
  | closeWindow (index : Byte)
  /-- RESUME_WINDOW (R32). -/
  | resumeWindow (index : Byte)
  /-- READ_WINDOW (R33). -/
  | readWindow (index : Byte)
  /-- FENCE (R105). -/
  | fence
  /-- POP_FAULT (R137). -/
  | popFault
  /-- LINK_RECOVER (R122). -/
  | linkRecover
  /-- CLEAR_ALL (R34). -/
  | clearAll
  /-- UNKNOWN_COMMAND (R152): this command byte is not in Table 10-3. -/
  | unknownCommand (code : Byte)
  /-- SM_CS_N_FALL (R148). -/
  | smCsNFall
  /-- SM_CS_N_RISE (R150). -/
  | smCsNRise
  /-- RESET_N_LOW (R37). -/
  | resetNLow
  /-- RESET_N_RELEASE (R134). -/
  | resetNRelease
  /-- SM_SCK_RISING_EDGE (R148) with the level of SM_DI at the edge. -/
  | smSckRisingEdge (di : Bool)
  deriving DecidableEq, Repr

end Sys2Proof
end

