-- ==== Sys2Proof/Decode.lean ====
section
/-! DEFINITION. Words to commands: no row of spec/opcode_table.json gives bits, so no word spells one.
The management port's own frames (Chapter 10) are read here too: command bytes, parameter bytes and their layouts. -/

namespace Sys2Proof

/-- The command that a word spells by the table's bits. Every row of the table has an empty "fields" list and no
"fixed" bits, so there is none (notes/assumptions/15.md). -/
def decodeTableWord (_nbits _w : Nat) : Option Instr := none

/-- The parameter bytes and the result bytes of a command code, or `none` for a code that Table 10-3 does not
hold (R153). -/
def frameLengths (code : Byte) : Option (Nat × Nat) :=
  if code = 0x10#8 then some (0, 17)
  else if code = 0x11#8 then some (2, 0)
  else if code = 0x12#8 then some (1, 0)
  else if code = 0x20#8 then some (12, 0)
  else if code = 0x21#8 then some (1, 0)
  else if code = 0x22#8 then some (1, 13)
  else if code = 0x30#8 then some (40, 0)
  else if code = 0x31#8 then some (1, 0)
  else if code = 0x32#8 then some (1, 0)
  else if code = 0x33#8 then some (1, 0)
  else if code = 0x34#8 then some (1, 54)
  else if code = 0x40#8 then some (0, 1)
  else if code = 0x50#8 then some (0, 16)
  else if code = 0x60#8 then some (0, 1)
  else if code = 0x70#8 then some (0, 0)
  else none

/-- Does Table 10-3 hold this command code? -/
def knownCode (code : Byte) : Bool := (frameLengths code).isSome

/-- The parameter bytes the port expects for a code: none for an unknown one (R152, R153). -/
def paramCount (code : Byte) : Nat := ((frameLengths code).getD (0, 0)).1

/-- The result bytes the port sends for a code: none for an unknown one (R152, R153). -/
def resultCount (code : Byte) : Nat := ((frameLengths code).getD (0, 0)).2

/-- A 16-bit field, most significant byte first (R147). -/
def bytes16 (x : BitVec 16) : List Byte := [x.extractLsb' 8 8, x.extractLsb' 0 8]

/-- A 32-bit field, most significant byte first (R147). -/
def bytes32 (x : Word) : List Byte :=
  [x.extractLsb' 24 8, x.extractLsb' 16 8, x.extractLsb' 8 8, x.extractLsb' 0 8]

/-- The byte of a frame at a place; frames hold as many bytes as Table 10-3 says, so 0 stands for no byte of one. -/
def byteAt (l : List Byte) (k : Nat) : Byte := l.getD k 0#8

/-- The 16-bit field that begins at byte `k` of a frame (R147). -/
def field16 (l : List Byte) (k : Nat) : BitVec 16 := byteAt l k ++ byteAt l (k + 1)

/-- The 32-bit field that begins at byte `k` of a frame (R147). -/
def field32 (l : List Byte) (k : Nat) : Word :=
  byteAt l k ++ byteAt l (k + 1) ++ byteAt l (k + 2) ++ byteAt l (k + 3)

/-- SET_SURFACE's twelve parameter bytes as fields (R157, Table 10-7). -/
def surfaceParamsOf (l : List Byte) : SurfaceParams where
  index := byteAt l 0
  format := byteAt l 1
  base := field32 l 2
  pitch := field16 l 6
  width := field16 l 8
  height := field16 l 10

/-- The parameter bytes of SET_SURFACE (R157, Table 10-7). -/
def surfaceParamBytes (p : SurfaceParams) : List Byte :=
  [p.index, p.format] ++ bytes32 p.base ++ bytes16 p.pitch ++ bytes16 p.width ++ bytes16 p.height

/-- SET_WINDOW's forty parameter bytes as fields (R158, Table 10-9). -/
def windowParamsOf (l : List Byte) : WindowParams where
  index := byteAt l 0
  kind := byteAt l 1
  options := byteAt l 2
  surface := byteAt l 3
  hostBase := field32 l 4
  originX := field16 l 8
  originY := field16 l 10
  width := field16 l 12
  height := field16 l 14
  clipLeft := field16 l 16
  clipTop := field16 l 18
  clipRight := field16 l 20
  clipBottom := field16 l 22
  foreground := field32 l 24
  background := field32 l 28
  key := field32 l 32
  keyMask := field32 l 36

/-- The parameter bytes of SET_WINDOW (R158, Table 10-9). -/
def windowParamBytes (p : WindowParams) : List Byte :=
  [p.index, p.kind, p.options, p.surface] ++ bytes32 p.hostBase ++ bytes16 p.originX ++ bytes16 p.originY
    ++ bytes16 p.width ++ bytes16 p.height ++ bytes16 p.clipLeft ++ bytes16 p.clipTop ++ bytes16 p.clipRight
    ++ bytes16 p.clipBottom ++ bytes32 p.foreground ++ bytes32 p.background ++ bytes32 p.key ++ bytes32 p.keyMask

/-- The management command of a command byte and its parameter bytes (R148, R152, R153). -/
def decodeFrame (code : Byte) (params : List Byte) : Instr :=
  if code = 0x10#8 then .getStatus
  else if code = 0x11#8 then .configure (byteAt params 0) (byteAt params 1)
  else if code = 0x12#8 then .ackNotice (byteAt params 0)
  else if code = 0x20#8 then .setSurface (surfaceParamsOf params)
  else if code = 0x21#8 then .dropSurface (byteAt params 0)
  else if code = 0x22#8 then .readSurface (byteAt params 0)
  else if code = 0x30#8 then .setWindow (windowParamsOf params)
  else if code = 0x31#8 then .openWindow (byteAt params 0)
  else if code = 0x32#8 then .closeWindow (byteAt params 0)
  else if code = 0x33#8 then .resumeWindow (byteAt params 0)
  else if code = 0x34#8 then .readWindow (byteAt params 0)
  else if code = 0x40#8 then .fence
  else if code = 0x50#8 then .popFault
  else if code = 0x60#8 then .linkRecover
  else if code = 0x70#8 then .clearAll
  else .unknownCommand code

/-- The command byte and the parameter bytes of a management command, or `none` for an event of another port
(R153, R157, R158). -/
def encodeFrame : Instr → Option (Byte × List Byte)
  | .getStatus => some (0x10#8, [])
  | .configure timeout enables => some (0x11#8, [timeout, enables])
  | .ackNotice mask => some (0x12#8, [mask])
  | .setSurface p => some (0x20#8, surfaceParamBytes p)
  | .dropSurface index => some (0x21#8, [index])
  | .readSurface index => some (0x22#8, [index])
  | .setWindow p => some (0x30#8, windowParamBytes p)
  | .openWindow index => some (0x31#8, [index])
  | .closeWindow index => some (0x32#8, [index])
  | .resumeWindow index => some (0x33#8, [index])
  | .readWindow index => some (0x34#8, [index])
  | .fence => some (0x40#8, [])
  | .popFault => some (0x50#8, [])
  | .linkRecover => some (0x60#8, [])
  | .clearAll => some (0x70#8, [])
  | .unknownCommand code => some (code, [])
  | .requestHandshake _ => none
  | .entryAnswered => none
  | .issue => none
  | .memoryResponse _ _ _ => none
  | .expiry _ => none
  | .smCsNFall => none
  | .smCsNRise => none
  | .resetNLow => none
  | .resetNRelease => none
  | .smSckRisingEdge _ => none

end Sys2Proof
end

