-- ==== Sys2Proof/Config.lean ====
section
/-! DEFINITION. The fixed capacities and settings of the bridge, each the number its rule gives.
Nothing in the spec is left to the implementation and no value is left open, so no constant here is free. -/

namespace Sys2Proof.Config

/-- The order queue holds at most 32 MOPs (R89). -/
def oqCapacity : Nat := 32

/-- The response queue holds at most 8 entries (R129). -/
def rqCapacity : Nat := 8

/-- The fence list holds at most 4 markers (R105). -/
def fenceCapacity : Nat := 4

/-- The fault log holds at most 8 records (R136). -/
def logCapacity : Nat := 8

/-- The lost counter stays at 255 (R136). -/
def lostMax : Nat := 255

/-- A window counter stays at 65535 (R19). -/
def counterMax : Nat := 65535

/-- The largest span that the range check of OPEN_WINDOW lets pass: 16 MiB (R25). -/
def spanMax : Nat := 16777216

/-- The largest byte address, FFFF_FFFFh. -/
def addrMax : Nat := 0xFFFFFFFF

/-- The unit of the timeout setting, in core clock periods (R115). -/
def timeoutUnit : Nat := 256

/-- The timeout setting after pin reset (R115, R124). -/
def timeoutReset : Byte := 64#8

end Sys2Proof.Config
end

