-- ==== Sys2Proof/Machine/State.lean ====
section
/-! DEFINITION. The state of the bridge as plain data: one structure for each block of Figure 1-2 that owns state,
the two control pins, and the queue of waiting commands. -/

namespace Sys2Proof.Machine

/-! ### Surface table (Chapter 1) -/

/-- The three pixel formats (R1). -/
inductive PixelFormat where
  | p8
  | p16
  | p32
  deriving DecidableEq, Repr

/-- A DEFINED surface descriptor (R4, Table 1-5). -/
structure Surface where
  format : PixelFormat
  base : Word
  pitch : BitVec 16
  width : BitVec 16
  height : BitVec 16
  refCount : Nat
  deriving DecidableEq, Repr

/-- The surface table: an entry is EMPTY (`none`) or DEFINED (R4). -/
abbrev SurfaceTable := Vector (Option Surface) 8

/-! ### Window table (Chapter 2) -/

/-- The five states of a window (R15, Table 2-4). -/
inductive WindowState where
  | empty
  | staged
  | live
  | halted
  | closing
  deriving DecidableEq, Repr

/-- The four kinds of window (R15); MATCH is `matchKey`. -/
inductive Kind where
  | direct
  | expand
  | coverage
  | matchKey
  deriving DecidableEq, Repr

/-- The inclusive clip rectangle in surface coordinates (R16). -/
structure Clip where
  left : BitVec 16
  top : BitVec 16
  right : BitVec 16
  bottom : BitVec 16
  deriving DecidableEq, Repr

/-- The staged fields, written together by SET_WINDOW (R15, R21). -/
structure Staged where
  kind : Kind
  surface : Fin 8
  hostBase : Word
  originX : BitVec 16
  originY : BitVec 16
  width : BitVec 16
  height : BitVec 16
  clip : Option Clip
  foreground : Word
  background : Option Word
  key : Word
  keyMask : Word
  stopOnFault : Bool
  deriving DecidableEq, Repr

/-- The derived fields, computed by a successful OPEN_WINDOW (R17). -/
structure Derived where
  rowBytes : Nat
  span : Nat
  hostLimit : Nat
  deriving DecidableEq, Repr

/-- The three counters (R19). -/
structure Counters where
  accepted : Nat
  refused : Nat
  cancelled : Nat
  deriving DecidableEq, Repr

/-- A window descriptor (R15, Table 2-1). -/
structure Window where
  state : WindowState
  generation : Byte
  staged : Staged
  derived : Derived
  counters : Counters
  inFlight : Nat
  deriving DecidableEq, Repr

/-- The window table with the clear-all pending flag (R15, R34). -/
structure WindowTable where
  windows : Vector Window 16
  clearAllPending : Bool
  deriving DecidableEq, Repr

/-! ### Order queue (Chapter 6) -/

/-- The window tag: an index and the generation of an opening (R18). -/
structure WindowTag where
  index : Fin 16
  generation : Byte
  deriving DecidableEq, Repr

/-- The state of a MOP with its tag field, which is present in FETCHING and ISSUED only (R91, Table 6-2). -/
inductive MopState where
  | pending
  | fetching (tag : Fin 8)
  | ready
  | issued (tag : Fin 8)
  deriving DecidableEq, Repr

/-- A contribution map (R77, Table 5-1): result byte and block offset for pass-through and DIRECT reads, result bit
and block offset of the pixel's first byte for MATCH reads. -/
inductive ReadMap where
  | bytes (entries : List (Nat × Nat))
  | bits (entries : List (Nat × Nat))
  deriving DecidableEq, Repr

/-- The kind of a MOP with the content that the kind carries (R90, Table 6-1). -/
inductive MopContent where
  /-- PLAIN_WRITE with its final bytes. -/
  | plain (data : Block)
  /-- RMW_WRITE until READY: pixel list (block offset and coverage value), foreground at pixel width, format (R67). -/
  | blend (pixels : List (Nat × Nat)) (foreground : Word) (format : PixelFormat)
  /-- RMW_WRITE from READY on: the bytes of the combine (R70). -/
  | blended (data : Block)
  /-- READ: its response queue entry and its contribution map (R77). -/
  | read (link : Nat) (map : ReadMap)
  deriving DecidableEq, Repr

/-- One MOP of the order queue (R90). `id` is the model's own serial number, which rises in creation order
(notes/assumptions/5.md). Data bytes outside the mask are held as 0 (notes/assumptions/11.md). -/
structure Mop where
  id : Nat
  block : Word
  mask : BitVec 64
  content : MopContent
  window : Option WindowTag
  hostAddr : Word
  state : MopState
  deriving DecidableEq, Repr

/-- A fence marker: its number, and its place as the serial number that the next MOP had at the placement, so that a
MOP is older than the fence exactly when its own serial number lies below the mark (R105). -/
structure Fence where
  number : Byte
  mark : Nat
  deriving DecidableEq, Repr

/-- The order queue and its fence list (R89, R105, R108), both oldest first. -/
structure OrderQueue where
  mops : List Mop
  nextId : Nat
  fences : List Fence
  nextFence : Byte
  /-- The last completed fence number; `none` while its valid flag is clear (R108). -/
  lastFence : Option Byte
  deriving DecidableEq, Repr

/-! ### Host side port (Chapter 8) -/

/-- One response queue entry (R129, Table 8-1); `id` is the model's own serial number. -/
structure Entry where
  id : Nat
  word : Word
  outstanding : Nat
  error : Bool
  deriving DecidableEq, Repr

/-- What the response channel carries when H_RVALID is high: H_RDATA and H_RERR (Figure 8-1). -/
structure HostResponse where
  data : Word
  error : Bool
  deriving DecidableEq, Repr

/-- The host side port: the presented access not yet taken, and the response queue, oldest first (R125, R129). -/
structure HostSide where
  request : Option Access
  entries : List Entry
  nextId : Nat
  /-- The model's own record of the last response that the host took (notes/assumptions/6.md). -/
  lastResponse : Option HostResponse
  deriving DecidableEq, Repr

/-! ### Memory side port (Chapter 7) -/

/-- The phase of a command: what its tag was given for (R113, R114). -/
inductive Phase where
  | fetch
  | read
  | write
  deriving DecidableEq, Repr

/-- One tag with the fields its state holds (R113, Table 7-3). `mop` is the serial number of the bound MOP; the
deadline is a moment on `MemorySide.clock`, absent for a command issued with timeout setting 0 (R115). -/
inductive Tag where
  | free
  | outstanding (mop : Nat) (phase : Phase) (deadline : Option Nat) (block : Word)
  | quarantined (phase : Phase) (block : Word)
  deriving DecidableEq, Repr

/-- One memory side command (Table 7-1). A READ command carries no data: its `data` is all 0. -/
structure MemCommand where
  write : Bool
  tag : Fin 8
  block : Word
  mask : BitVec 64
  data : Block
  deriving DecidableEq, Repr

/-- The memory side port: the eight tags and the timeout setting (R113, R115). -/
structure MemorySide where
  tags : Vector Tag 8
  timeout : Byte
  /-- The model's own count of core clock periods (notes/assumptions/1.md). -/
  clock : Nat
  /-- The model's own record of the last command the partner accepted (notes/assumptions/6.md). -/
  lastCommand : Option MemCommand
  deriving DecidableEq, Repr

/-! ### Fault unit (Chapter 9) -/

/-- The kinds of fault (R135). -/
inductive FaultKind where
  | fetchError
  | readError
  | writeError
  | timeout
  | lateResponse
  | unknownTag
  | wrongDirection
  deriving DecidableEq, Repr

/-- One fault record (R135, Table 9-1). -/
structure FaultRecord where
  kind : FaultKind
  phase : Option Phase
  window : Option WindowTag
  hostAddr : Option Word
  block : Option Word
  tag : Option (Fin 8)
  halted : Bool
  status : Option RespStatus
  deriving DecidableEq, Repr

/-- The four notice flags (R141). -/
structure Notices where
  fenceDone : Bool
  windowClosed : Bool
  windowHalted : Bool
  clearDone : Bool
  deriving DecidableEq, Repr

/-- The five attention enables (R144). -/
structure Enables where
  fault : Bool
  fenceDone : Bool
  windowClosed : Bool
  windowHalted : Bool
  clearDone : Bool
  deriving DecidableEq, Repr

/-- The fault unit (Chapter 9): log, lost counter, notices with their window sets, attention enables. -/
structure FaultUnit where
  log : List FaultRecord
  lost : Nat
  notices : Notices
  /-- Bit `n` is set when window `n` is in the closed set (R141). -/
  closedSet : BitVec 16
  /-- Bit `n` is set when window `n` is in the halted set (R141). -/
  haltedSet : BitVec 16
  enables : Enables
  deriving DecidableEq, Repr

/-! ### Management port (Chapter 10) -/

/-- The phases of a frame (R148, Table 10-2). -/
inductive FramePhase where
  | idle
  | command
  | parameters
  | response
  | trailing
  deriving DecidableEq, Repr

/-- The frame receive state (R148). `shift` holds the bits of the byte being received, `response` the bytes not yet
sent, the one being sent first. -/
structure Frame where
  phase : FramePhase
  bitCount : Nat
  shift : Byte
  code : Option Byte
  params : List Byte
  response : List Byte
  deriving DecidableEq, Repr

/-! ### The whole block -/

/-- The state of the bridge: every block of Figure 1-2 that owns state, the levels of SM_CS_N and RESET_N, and the
commands that wait, oldest first. -/
structure State where
  st : SurfaceTable
  wt : WindowTable
  oq : OrderQueue
  hsp : HostSide
  msp : MemorySide
  fu : FaultUnit
  mgp : Frame
  csN : Bool
  resetN : Bool
  pending : List Instr
  deriving DecidableEq, Repr

/-- Reasons for which a step would stop the block. The spec names none: a fault of the device is a record in its log
(R135) after which it goes on, and a command that is turned away answers a status (R154). Nobody raises one. -/
inductive Fault where
  deriving DecidableEq, Repr

/-- Reasons for which the model would turn a command away. -/
inductive Refusal where
  /-- The command has no meaning in the model. Raised by `exec` for an arm that is not modelled, and by no arm of this
  model. Safe: the model stops where the hardware goes on. -/
  | notModelled (mnemonic : String)
  deriving DecidableEq, Repr

/-! ### Values after pin reset -/

/-- The staged fields of an EMPTY window: all 0 (R15, Note 1, R37). -/
def Staged.zero : Staged where
  kind := .direct
  surface := 0
  hostBase := 0#32
  originX := 0#16
  originY := 0#16
  width := 0#16
  height := 0#16
  clip := none
  foreground := 0#32
  background := none
  key := 0#32
  keyMask := 0#32
  stopOnFault := false

/-- The derived fields outside LIVE, HALTED and CLOSING: all 0 (R17). -/
def Derived.zero : Derived where
  rowBytes := 0
  span := 0
  hostLimit := 0

/-- The counters at an opening and in EMPTY: all 0 (R19). -/
def Counters.zero : Counters where
  accepted := 0
  refused := 0
  cancelled := 0

/-- An EMPTY window with this generation: every field except state and generation is 0 (R15, Note 1). -/
def Window.emptied (generation : Byte) : Window where
  state := .empty
  generation := generation
  staged := Staged.zero
  derived := Derived.zero
  counters := Counters.zero
  inFlight := 0

/-- The frame receive state in IDLE: no command code, no parameters, no response (R162). -/
def Frame.idle : Frame where
  phase := .idle
  bitCount := 0
  shift := 0#8
  code := none
  params := []
  response := []

/-- The order queue after pin reset (R109). -/
def OrderQueue.reset : OrderQueue where
  mops := []
  nextId := 0
  fences := []
  nextFence := 0#8
  lastFence := none

/-- The host side port after pin reset, with no access presented (R134). -/
def HostSide.reset : HostSide where
  request := none
  entries := []
  nextId := 0
  lastResponse := none

/-- The memory side port after pin reset (R115, R124). -/
def MemorySide.reset : MemorySide where
  tags := Vector.replicate 8 Tag.free
  timeout := Config.timeoutReset
  clock := 0
  lastCommand := none

/-- The fault unit after pin reset (R146): FAULT attention alone is enabled. -/
def FaultUnit.reset : FaultUnit where
  log := []
  lost := 0
  notices :=
    { fenceDone := false
      windowClosed := false
      windowHalted := false
      clearDone := false }
  closedSet := 0#16
  haltedSet := 0#16
  enables :=
    { fault := true
      fenceDone := false
      windowClosed := false
      windowHalted := false
      clearDone := false }

/-- The machine right after the release of RESET_N, SM_CS_N high and no access presented
(R14, R37, R109, R124, R134, R146, R162; the two pins of the outside: notes/assumptions/9.md). -/
def State.reset : State where
  st := Vector.replicate 8 none
  wt :=
    { windows := Vector.replicate 16 (Window.emptied 0#8)
      clearAllPending := false }
  oq := OrderQueue.reset
  hsp := HostSide.reset
  msp := MemorySide.reset
  fu := FaultUnit.reset
  mgp := Frame.idle
  csN := true
  resetN := true
  pending := []

end Sys2Proof.Machine
end

