-- ==== Sys2Proof/Machine/Flags.lean ====
section
/-! DEFINITION. Status codes, notice flags and window sets, attention enables and ATTN_N, and the bytes in which the
management port shows them. -/

namespace Sys2Proof.Machine

/-! ### Status codes -/

/-- The status codes of Table 10-4 (R154). -/
inductive Status where
  | ok
  | busy
  | badArg
  | badState
  | noSurface
  | range
  | overlap
  | pinned
  | full
  | unknown
  deriving DecidableEq, Repr

/-- The code byte of a status (R154, Table 10-4). -/
def Status.code : Status → Byte
  | .ok => 0x00#8
  | .busy => 0x01#8
  | .badArg => 0x02#8
  | .badState => 0x03#8
  | .noSurface => 0x04#8
  | .range => 0x05#8
  | .overlap => 0x06#8
  | .pinned => 0x07#8
  | .full => 0x08#8
  | .unknown => 0x0F#8

/-! ### Notices -/

/-- The bit of a window in a window set (R141, R155). -/
def windowBit (i : Fin 16) : BitVec 16 := 1#16 <<< i.val

/-- FENCE_DONE is set (R141). -/
def noticeFenceDone (fu : FaultUnit) : FaultUnit :=
  { fu with notices := { fu.notices with fenceDone := true } }

/-- WINDOW_CLOSED is set with the window's index in the closed set (R141). -/
def noticeWindowClosed (i : Fin 16) (fu : FaultUnit) : FaultUnit :=
  { fu with
    notices := { fu.notices with windowClosed := true }
    closedSet := fu.closedSet ||| windowBit i }

/-- WINDOW_HALTED is set with the window's index in the halted set (R141). -/
def noticeWindowHalted (i : Fin 16) (fu : FaultUnit) : FaultUnit :=
  { fu with
    notices := { fu.notices with windowHalted := true }
    haltedSet := fu.haltedSet ||| windowBit i }

/-- CLEAR_DONE is set (R141). -/
def noticeClearDone (fu : FaultUnit) : FaultUnit :=
  { fu with notices := { fu.notices with clearDone := true } }

/-- ACK_NOTICE with this mask (R142, R156): bit 0 LOST, bit 1 FENCE_DONE, bit 2 WINDOW_CLOSED, bit 3 WINDOW_HALTED,
bit 4 CLEAR_DONE. -/
def acknowledge (mask : Byte) (fu : FaultUnit) : FaultUnit :=
  { fu with
    notices :=
      { fenceDone := fu.notices.fenceDone && !mask.getLsbD 1
        windowClosed := fu.notices.windowClosed && !mask.getLsbD 2
        windowHalted := fu.notices.windowHalted && !mask.getLsbD 3
        clearDone := fu.notices.clearDone && !mask.getLsbD 4 }
    closedSet := if mask.getLsbD 2 then 0#16 else fu.closedSet
    haltedSet := if mask.getLsbD 3 then 0#16 else fu.haltedSet
    lost := if mask.getLsbD 0 then 0 else fu.lost }

/-! ### Fault log -/

/-- The fault log takes a record, or the lost counter rises when eight are held (R136). -/
def logFault (r : FaultRecord) (fu : FaultUnit) : FaultUnit :=
  if fu.log.length < Config.logCapacity then { fu with log := fu.log ++ [r] }
  else { fu with lost := min Config.lostMax (fu.lost + 1) }

/-! ### Attention -/

/-- The enables that an enables byte carries; bits 7 to 5 are ignored (R144, R156). -/
def enablesOf (b : Byte) : Enables where
  fault := b.getLsbD 0
  fenceDone := b.getLsbD 1
  windowClosed := b.getLsbD 2
  windowHalted := b.getLsbD 3
  clearDone := b.getLsbD 4

/-- Is attention requested (R145, Table 9-6)? -/
def attention (fu : FaultUnit) : Bool :=
  (!fu.log.isEmpty && fu.enables.fault)
    || (fu.notices.fenceDone && fu.enables.fenceDone)
    || (fu.notices.windowClosed && fu.enables.windowClosed)
    || (fu.notices.windowHalted && fu.enables.windowHalted)
    || (fu.notices.clearDone && fu.enables.clearDone)

/-- The level of ATTN_N: low while attention is requested, high while RESET_N is low (R145, R146). -/
def attnN (s : State) : Bool := !(s.resetN && attention s.fu)

/-! ### Flags as bytes -/

/-- A flag at a bit position of a byte. -/
def flagBit (b : Bool) (n : Nat) : Byte := if b then 1#8 <<< n else 0#8

/-- Byte 10 of GET_STATUS: the notice flags (R155, Table 10-5). -/
def noticesByte (n : Notices) : Byte :=
  flagBit n.fenceDone 1 ||| flagBit n.windowClosed 2 ||| flagBit n.windowHalted 3 ||| flagBit n.clearDone 4

/-- Byte 15 of GET_STATUS: the attention enables (R155, Table 10-5). -/
def enablesByte (e : Enables) : Byte :=
  flagBit e.fault 0 ||| flagBit e.fenceDone 1 ||| flagBit e.windowClosed 2 ||| flagBit e.windowHalted 3
    ||| flagBit e.clearDone 4

end Sys2Proof.Machine
end

