-- ==== Sys2Proof/Machine/Transform.lean ====
section
/-! DEFINITION. Pixel formats, block bytes, the blend and combine of COVERAGE writes, and the conversion of read data:
the transform unit's arithmetic (Chapters 1, 4 and 5). -/

namespace Sys2Proof.Machine

/-! ### Pixel formats -/

/-- Bytes per pixel (R1, Table 1-4). -/
def PixelFormat.bpp : PixelFormat → Nat
  | .p8 => 1
  | .p16 => 2
  | .p32 => 4

/-- The format code, which equals bytes per pixel (R1). -/
def PixelFormat.code (f : PixelFormat) : Byte := BitVec.ofNat 8 f.bpp

/-- The format that a format code names; any other code names none (R1). -/
def formatOfCode (c : Byte) : Option PixelFormat :=
  if c = 1#8 then some .p8
  else if c = 2#8 then some .p16
  else if c = 4#8 then some .p32
  else none

/-- The channels of a format as (bit position, width), high to low (R1, Table 1-4). -/
def PixelFormat.channels : PixelFormat → List (Nat × Nat)
  | .p8 => [(5, 3), (2, 3), (0, 2)]
  | .p16 => [(11, 5), (5, 6), (0, 5)]
  | .p32 => [(24, 8), (16, 8), (8, 8), (0, 8)]

/-- A descriptor colour at the surface's pixel width (R3). -/
def colourAt (f : PixelFormat) (c : Word) : Word :=
  match f with
  | .p8 => c &&& 0xFF#32
  | .p16 => c &&& 0xFFFF#32
  | .p32 => c

/-! ### Block bytes -/

/-- Byte `k` of a 32-bit value, byte 0 the least significant (R2, R38). -/
def wordByte (w : Word) (k : Nat) : Byte := w.extractLsb' (8 * k) 8

/-- The byte of a block at an offset; offsets run from 0 to 63. -/
def blockByte (d : Block) (o : Nat) : Byte := if h : o < 64 then d[o] else 0#8

/-- The block that holds these bytes at these offsets and 0 at every other offset (R60). -/
def blockOf (bytes : List (Nat × Byte)) : Block := Vector.ofFn fun k => (bytes.lookup k.val).getD 0#8

/-- The byte mask that holds these offsets (R49). -/
def maskOf : List Nat → BitVec 64
  | [] => 0#64
  | k :: rest => (1#64 <<< k) ||| maskOf rest

/-- The bytes of a merge: the younger write's at its mask, the older one's elsewhere (R53). -/
def mergeData (old new : Block) (newMask : BitVec 64) : Block :=
  Vector.ofFn fun k => if newMask.getLsbD k.val then new[k.val] else old[k.val]

/-- The bytes of a pixel value, least significant byte first, from an address or offset on (R2). -/
def pixelBytes (f : PixelFormat) (at_ : Nat) (v : Word) : List (Nat × Byte) :=
  (List.range f.bpp).map fun k => (at_ + k, wordByte v k)

/-- The pixel value that a block holds at an offset, least significant byte first (R2). -/
def pixelAt (f : PixelFormat) (d : Block) (o : Nat) : Word :=
  (List.range f.bpp).foldl (fun v k => v ||| ((blockByte d (o + k)).setWidth 32 <<< (8 * k))) 0#32

/-! ### The blend -/

/-- The blend of one channel (R68). -/
def blendChannel (f d c : Nat) : Nat := (f * c + d * (15 - c) + 7) / 15

/-- A channel value of a pixel: the unsigned number of its bits (R1). -/
def channelValue (v : Word) (ch : Nat × Nat) : Nat := (v.toNat >>> ch.1) % 2 ^ ch.2

/-- The blend of a whole pixel, channel by channel (R69). -/
def blendPixel (f : PixelFormat) (fg dst : Word) (c : Nat) : Word :=
  BitVec.ofNat 32
    ((f.channels.map fun ch => blendChannel (channelValue fg ch) (channelValue dst ch) c <<< ch.1).sum)

/-- The pixel that the combine writes: the foreground at coverage 15, the blend below (R70). -/
def combinePixel (f : PixelFormat) (fg : Word) (fetched : Block) (px : Nat × Nat) : Word :=
  if px.2 = 15 then fg else blendPixel f fg (pixelAt f fetched px.1) px.2

/-- The combine of an RMW_WRITE with its fetched block (R70). -/
def combine (pixels : List (Nat × Nat)) (fg : Word) (f : PixelFormat) (fetched : Block) : Block :=
  blockOf (pixels.flatMap fun px => pixelBytes f px.1 (combinePixel f fg fetched px))

/-! ### Read conversion -/

/-- Result byte `k` of a response word takes this value (R79). -/
def setResultByte (w : Word) (k : Nat) (b : Byte) : Word :=
  (w &&& ~~~(0xFF#32 <<< (8 * k))) ||| (b.setWidth 32 <<< (8 * k))

/-- Result bit `n` of a response word takes this value (R80). -/
def setResultBit (w : Word) (n : Nat) (v : Bool) : Word :=
  (w &&& ~~~(1#32 <<< n)) ||| ((if v then 1#32 else 0#32) <<< n)

/-- The match bit of a pixel value (R80). -/
def matchBit (f : PixelFormat) (key keyMask pixel : Word) : Bool :=
  (pixel &&& colourAt f keyMask) = (colourAt f key &&& colourAt f keyMask)

/-- The bytes of a pass-through or DIRECT READ MOP are copied to their result bytes (R79). -/
def placeBytes (entries : List (Nat × Nat)) (data : Block) (w : Word) : Word :=
  entries.foldl (fun w e => setResultByte w e.1 (blockByte data e.2)) w

/-- The match bits of a MATCH READ MOP are placed at their result bits (R80). -/
def placeBits (entries : List (Nat × Nat)) (f : PixelFormat) (key keyMask : Word) (data : Block) (w : Word) : Word :=
  entries.foldl (fun w e => setResultBit w e.1 (matchBit f key keyMask (pixelAt f data e.2))) w

end Sys2Proof.Machine
end

