-- ==== Sys2Proof/Machine/Operands.lean ====
section
/-! DEFINITION. The operand forms of a host access: matching, the pixels of a host word, masking, the write and read
transforms, and the split into block MOPs (Chapters 3 to 5). -/

namespace Sys2Proof.Machine

/-! ### Matching -/

/-- The byte address of an access (R38). -/
def accessAddr (a : Access) : Nat := a.addr.toNat * 4

/-- Is the window in a state in which it matches accesses (R39, Table 2-4)? -/
def Window.matching (w : Window) : Bool := w.state = .live || w.state = .halted

/-- Does a window in LIVE or HALTED hold this byte address in its host range (R39)? -/
def Window.covers (w : Window) (addr : Nat) : Bool :=
  w.matching && w.staged.hostBase.toNat ≤ addr && addr ≤ w.derived.hostLimit

/-- The window that an access matches (R39). At most one covers the address (R26). -/
def matchedWindow (wt : WindowTable) (addr : Nat) : Option (Fin 16) :=
  (List.finRange 16).find? fun i => wt.windows[i.val].covers addr

/-- Does the kind serve this direction (R40)? `true` is a write. -/
def Kind.serves : Kind → Bool → Bool
  | .direct, _ => true
  | .expand, write => write
  | .coverage, write => write
  | .matchKey, write => !write

/-- The dispositions of a taken access (R40, Table 3-1). -/
inductive Disposition where
  | passThrough
  | transformed (i : Fin 16)
  | wrongDirection (i : Fin 16)
  | haltedRefusal (i : Fin 16)
  deriving DecidableEq, Repr

/-- The disposition of an access against the window table as it stands (R40). -/
def disposition (wt : WindowTable) (a : Access) : Disposition :=
  match matchedWindow wt (accessAddr a) with
  | none => .passThrough
  | some i =>
    if wt.windows[i.val].state = .halted then .haltedRefusal i
    else if wt.windows[i.val].staged.kind.serves a.write then .transformed i
    else .wrongDirection i

/-! ### From host address to pixels -/

/-- The pixels of the group of one host word (R43, Table 3-2). -/
def groupSize (k : Kind) (f : PixelFormat) : Nat :=
  match k with
  | .direct => 4 / f.bpp
  | .expand => 32
  | .coverage => 8
  | .matchKey => 32

/-- The first column of the group at byte position `p` of a host row (R43, Table 3-2). -/
def firstColumn (k : Kind) (f : PixelFormat) (p : Nat) : Nat :=
  match k with
  | .direct => p / f.bpp
  | .expand => 8 * p
  | .coverage => 2 * p
  | .matchKey => 8 * p

/-- The byte address of a surface pixel (R5). -/
def pixelAddr (d : Surface) (x y : Nat) : Nat := d.base.toNat + y * d.pitch.toNat + x * d.format.bpp

/-- Does the clip rectangle mask this surface position (R16, R46)? -/
def outsideClip (clip : Option Clip) (x y : Nat) : Bool :=
  match clip with
  | none => false
  | some c => x < c.left.toNat || x > c.right.toNat || y < c.top.toNat || y > c.bottom.toNat

/-- Is a window pixel in column `col` at surface position (`x`, `y`) masked by position (R46)? -/
def maskedByPosition (w : Staged) (d : Surface) (col x y : Nat) : Bool :=
  w.width.toNat ≤ col || d.width.toNat ≤ x || d.height.toNat ≤ y || outsideClip w.clip x y

/-- The row of an access in its window (R43). -/
def accessRow (w : Window) (addr : Nat) : Nat := (addr - w.staged.hostBase.toNat) / w.derived.rowBytes

/-- The byte position of an access in its host row (R43). -/
def accessPos (w : Window) (addr : Nat) : Nat := (addr - w.staged.hostBase.toNat) % w.derived.rowBytes

/-- The byte address of the pixel at position `m` of the group of an access, or `none` when it is masked by position
(R43, R45, R46). -/
def groupPixel (w : Window) (d : Surface) (addr m : Nat) : Option Nat :=
  let col := firstColumn w.staged.kind d.format (accessPos w addr) + m
  let x := w.staged.originX.toNat + col
  let y := w.staged.originY.toNat + accessRow w addr
  if maskedByPosition w.staged d col x y then none else some (pixelAddr d x y)

/-! ### Write transforms: the unmasked bytes or pixels of a write, in ascending address -/

/-- The enabled bytes of a pass-through write at their own addresses (R41). -/
def passBytes (a : Access) : List (Nat × Byte) :=
  (List.range 4).filterMap fun k => if a.be.getLsbD k then some (accessAddr a + k, wordByte a.wdata k) else none

/-- The bytes of a DIRECT write (R61, R47). -/
def directBytes (w : Window) (d : Surface) (a : Access) : List (Nat × Byte) :=
  (List.range 4).filterMap fun k =>
    if a.be.getLsbD k then
      (groupPixel w d (accessAddr a) (k / d.format.bpp)).map fun p => (p + k % d.format.bpp, wordByte a.wdata k)
    else none

/-- The colour that a pattern bit gives a pixel, or `none` when the data masks the pixel (R62, R63). -/
def patternColour (w : Staged) (f : PixelFormat) (bit : Bool) : Option Word :=
  if bit then some (colourAt f w.foreground) else w.background.map (colourAt f)

/-- The bytes of an EXPAND write (R62, R63, R47). -/
def expandBytes (w : Window) (d : Surface) (a : Access) : List (Nat × Byte) :=
  (List.range 32).flatMap fun m =>
    if a.be.getLsbD (m / 8) then
      match groupPixel w d (accessAddr a) m, patternColour w.staged d.format (a.wdata.getLsbD m) with
      | some p, some c => pixelBytes d.format p c
      | _, _ => []
    else []

/-- The coverage value of position `m` of the group (R65). -/
def coverageValue (wdata : Word) (m : Nat) : Nat := (wdata.extractLsb' (4 * m) 4).toNat

/-- The unmasked pixels of a COVERAGE write as (address, coverage value) (R65, R47). -/
def coveragePixels (w : Window) (d : Surface) (a : Access) : List (Nat × Nat) :=
  (List.range 8).filterMap fun m =>
    if a.be.getLsbD (m / 2) && coverageValue a.wdata m ≠ 0 then
      (groupPixel w d (accessAddr a) m).map fun p => (p, coverageValue a.wdata m)
    else none

/-! ### Read transforms: the result positions of a read with the address each comes from -/

/-- The result bytes of a pass-through read as (address, result byte) (R42). -/
def passSources (a : Access) : List (Nat × Nat) := (List.range 4).map fun k => (accessAddr a + k, k)

/-- The result bytes of a DIRECT read as (address, result byte) (R77). -/
def directSources (w : Window) (d : Surface) (a : Access) : List (Nat × Nat) :=
  (List.range 4).filterMap fun k =>
    (groupPixel w d (accessAddr a) (k / d.format.bpp)).map fun p => (p + k % d.format.bpp, k)

/-- The result bits of a MATCH read as (pixel address, result bit) (R77). -/
def matchSources (w : Window) (d : Surface) (a : Access) : List (Nat × Nat) :=
  (List.range 32).filterMap fun m => (groupPixel w d (accessAddr a) m).map fun p => (p, m)

/-! ### Splitting into blocks -/

/-- Cut a run of addressed items at 64-byte block boundaries: each block number with its items (R49). -/
def groupByBlock {α : Type} : List (Nat × α) → List (Nat × List (Nat × α))
  | [] => []
  | x :: rest =>
    match groupByBlock rest with
    | [] => [(x.1 / 64, [x])]
    | g :: gs => if x.1 / 64 = g.1 then (g.1, x :: g.2) :: gs else (x.1 / 64, [x]) :: g :: gs

/-- What one MOP of an access acts on: its block number, byte mask and content. -/
structure BlockPart where
  block : Nat
  mask : BitVec 64
  content : MopContent
  deriving DecidableEq, Repr

/-- The PLAIN_WRITE parts of a run of final bytes (R49, R50). -/
def plainParts (bytes : List (Nat × Byte)) : List BlockPart :=
  (groupByBlock bytes).map fun g =>
    { block := g.1
      mask := maskOf (g.2.map fun x => x.1 % 64)
      content := .plain (blockOf (g.2.map fun x => (x.1 % 64, x.2))) }

/-- The offsets of the bytes of these pixels in their block. -/
def pixelOffsets {α : Type} (f : PixelFormat) (pixels : List (Nat × α)) : List Nat :=
  pixels.flatMap fun x => (List.range f.bpp).map fun k => x.1 % 64 + k

/-- The content of one MOP of a COVERAGE write: PLAIN_WRITE when every pixel has coverage 15, RMW_WRITE otherwise
(R66, R67). -/
def coverageContent (f : PixelFormat) (fg : Word) (pixels : List (Nat × Nat)) : MopContent :=
  if pixels.all fun x => x.2 = 15 then .plain (blockOf (pixels.flatMap fun x => pixelBytes f (x.1 % 64) fg))
  else .blend (pixels.map fun x => (x.1 % 64, x.2)) fg f

/-- The parts of a COVERAGE write (R49, R66). -/
def coverageParts (f : PixelFormat) (fg : Word) (pixels : List (Nat × Nat)) : List BlockPart :=
  (groupByBlock pixels).map fun g =>
    { block := g.1
      mask := maskOf (pixelOffsets f g.2)
      content := coverageContent f fg g.2 }

/-- The READ parts of a pass-through or DIRECT read (R50, R77, R78). -/
def byteReadParts (link : Nat) (sources : List (Nat × Nat)) : List BlockPart :=
  (groupByBlock sources).map fun g =>
    { block := g.1
      mask := maskOf (g.2.map fun x => x.1 % 64)
      content := .read link (.bytes (g.2.map fun x => (x.2, x.1 % 64))) }

/-- The READ parts of a MATCH read (R50, R77, R78). -/
def matchReadParts (link : Nat) (f : PixelFormat) (sources : List (Nat × Nat)) : List BlockPart :=
  (groupByBlock sources).map fun g =>
    { block := g.1
      mask := maskOf (pixelOffsets f g.2)
      content := .read link (.bits (g.2.map fun x => (x.2, x.1 % 64))) }

/-- The parts of an access that a window transforms on its surface (R50). -/
def windowParts (w : Window) (d : Surface) (link : Nat) (a : Access) : List BlockPart :=
  match w.staged.kind with
  | .direct => if a.write then plainParts (directBytes w d a) else byteReadParts link (directSources w d a)
  | .expand => plainParts (expandBytes w d a)
  | .coverage => coverageParts d.format (colourAt d.format w.staged.foreground) (coveragePixels w d a)
  | .matchKey => matchReadParts link d.format (matchSources w d a)

/-- The parts of an access that passes through (R41, R42). -/
def passParts (link : Nat) (a : Access) : List BlockPart :=
  if a.write then plainParts (passBytes a) else byteReadParts link (passSources a)

/-- The parts of an access by its disposition; a refused access has none (R55, R56). -/
def accessParts (s : State) (a : Access) : List BlockPart :=
  match disposition s.wt a with
  | .passThrough => passParts s.hsp.nextId a
  | .transformed i =>
    let w := s.wt.windows[i.val]
    match s.st[w.staged.surface.val] with
    | some d => windowParts w d s.hsp.nextId a
    | none => []
  | .wrongDirection _ => []
  | .haltedRefusal _ => []

/-- The window tag of the MOPs of an access: the matched window's index and current generation (R50). -/
def accessTag (s : State) (a : Access) : Option WindowTag :=
  match disposition s.wt a with
  | .passThrough => none
  | .transformed i => some { index := i, generation := s.wt.windows[i.val].generation }
  | .wrongDirection _ => none
  | .haltedRefusal _ => none

/-- The MOPs of these parts, with serial numbers from `id` on, in state PENDING (R50). -/
def mopsOfParts (id : Nat) (tag : Option WindowTag) (host : Word) : List BlockPart → List Mop
  | [] => []
  | p :: rest =>
    { id := id
      block := BitVec.ofNat 32 (64 * p.block)
      mask := p.mask
      content := p.content
      window := tag
      hostAddr := host
      state := .pending } :: mopsOfParts (id + 1) tag host rest

/-- The MOPs that an access would create, counted before any merge (R49, R52). -/
def accessMops (s : State) (a : Access) : List Mop :=
  mopsOfParts s.oq.nextId (accessTag s a) (BitVec.ofNat 32 (accessAddr a)) (accessParts s a)

end Sys2Proof.Machine
end

