-- ==== Sys2Proof/Machine/Queue.lean ====
section
/-! DEFINITION. The order queue's rules over its MOPs: kinds, overlap, eligibility, the choice of the next command, the
place of fences (Chapter 6), and the choice of a tag (Chapter 7). -/

namespace Sys2Proof.Machine

/-! ### MOPs by kind and state -/

/-- Is the MOP a write MOP, a PLAIN_WRITE or an RMW_WRITE (R92)? -/
def Mop.isWrite (m : Mop) : Bool :=
  match m.content with
  | .plain _ => true
  | .blend _ _ _ => true
  | .blended _ => true
  | .read _ _ => false

/-- Is the MOP a PLAIN_WRITE? -/
def Mop.isPlain (m : Mop) : Bool :=
  match m.content with
  | .plain _ => true
  | .blend _ _ _ => false
  | .blended _ => false
  | .read _ _ => false

/-- Is the MOP in ISSUED? -/
def Mop.isIssued (m : Mop) : Bool :=
  match m.state with
  | .issued _ => true
  | .pending => false
  | .fetching _ => false
  | .ready => false

/-- The tag field of a MOP (R90): present in FETCHING and ISSUED. -/
def Mop.tag (m : Mop) : Option (Fin 8) :=
  match m.state with
  | .pending => none
  | .fetching t => some t
  | .ready => none
  | .issued t => some t

/-- Does the MOP carry a tag of this window? Every MOP with the window's index carries its current generation (R20). -/
def Mop.ofWindow (m : Mop) (i : Fin 16) : Bool :=
  match m.window with
  | none => false
  | some t => t.index = i

/-- The response queue entry that a READ MOP supplies. -/
def Mop.link (m : Mop) : Option Nat :=
  match m.content with
  | .read link _ => some link
  | .plain _ => none
  | .blend _ _ _ => none
  | .blended _ => none

/-- Two MOPs overlap when they share a block and at least one byte of their masks (R92). -/
def Mop.overlaps (m n : Mop) : Bool := m.block = n.block && (m.mask &&& n.mask) ≠ 0#64

/-! ### Eligibility -/

/-- The command that a MOP may issue next, as the phase its tag would be given for (R91, Table 6-2). -/
def Mop.nextPhase (m : Mop) : Option Phase :=
  match m.content, m.state with
  | .plain _, .pending => some .write
  | .blend _ _ _, .pending => some .fetch
  | .blended _, .ready => some .write
  | .read _ _, .pending => some .read
  | _, _ => none

/-- Does an older MOP let the write command of `m` be issued (R93, Table 6-3)? An older write in ISSUED does, also when
its command has no timer and is never answered: where the last bullet of R97 reads otherwise, the model follows R93,
Table 6-3 and R98, a DESIGN CHOICE (notes/assumptions/22.md). -/
def letsWrite (m older : Mop) : Bool :=
  if older.isWrite then older.isIssued else !(older.overlaps m && older.state = .pending)

/-- Does an older MOP let the read command or the fetch of `m` be issued (R94, Table 6-3)? -/
def letsRead (m older : Mop) : Bool := !(older.isWrite && older.overlaps m) || older.isIssued

/-- Is the next command of `m` eligible behind these older MOPs (R93, R94, R95)? -/
def eligible (older : List Mop) (m : Mop) : Bool :=
  match m.nextPhase with
  | none => false
  | some .write => older.all (letsWrite m)
  | some .read => older.all (letsRead m)
  | some .fetch => older.all (letsRead m)

/-- The oldest MOP with an eligible command (R96); `older` holds the MOPs already passed over, oldest first. -/
def oldestEligible (older : List Mop) : List Mop → Option Mop
  | [] => none
  | m :: rest => if eligible older m then some m else oldestEligible (older ++ [m]) rest

/-- The lowest-numbered FREE tag (R96, R114). -/
def lowestFreeTag (tags : Vector Tag 8) : Option (Fin 8) := (List.finRange 8).find? fun t => tags[t.val] = Tag.free

/-- The command and tag that the next issue event takes, when there are both (R96). -/
def issueChoice (s : State) : Option (Mop × Fin 8) :=
  match oldestEligible [] s.oq.mops, lowestFreeTag s.msp.tags with
  | some m, some t => some (m, t)
  | _, _ => none

/-! ### Queue edits -/

/-- Replace the MOP with this serial number (R90). -/
def updateMop (id : Nat) (f : Mop → Mop) (mops : List Mop) : List Mop :=
  mops.map fun m => if m.id = id then f m else m

/-- The queue without the MOP with this serial number (R89). -/
def dropMop (id : Nat) (mops : List Mop) : List Mop := mops.filter fun m => m.id ≠ id

/-- The MOP with this serial number. -/
def findMop (id : Nat) (mops : List Mop) : Option Mop := mops.find? fun m => m.id = id

/-- Does a halt of this window cancel the MOP: is it one of the window's and PENDING (R103)? -/
def Mop.cancelledBy (m : Mop) (i : Fin 16) : Bool := m.ofWindow i && m.state = .pending

/-! ### Merge -/

/-- May this first MOP of a write merge into the tail (R53)? A fence placed since the tail was created has its mark
behind the tail's serial number. -/
def mergesInto (oq : OrderQueue) (m : Mop) : Bool :=
  match oq.mops.getLast? with
  | none => false
  | some t =>
    t.isPlain && t.state = .pending && m.isPlain && t.block = m.block && t.window = m.window
      && oq.fences.all fun f => f.mark ≤ t.id

/-- The content of the tail after a merge: the younger bytes replace the older ones (R53). -/
def mergeContent (old new : MopContent) (newMask : BitVec 64) : MopContent :=
  match old, new with
  | .plain d, .plain e => .plain (mergeData d e newMask)
  | _, _ => old

/-- The tail after a merge with this MOP (R53): it keeps its place, window tag and host address. -/
def mergeTail (t m : Mop) : Mop :=
  { t with
    mask := t.mask ||| m.mask
    content := mergeContent t.content m.content m.mask }

/-- The queue after the first MOP of a write has merged into its tail (R53). -/
def mergeIntoTail (mops : List Mop) (m : Mop) : List Mop :=
  match mops.getLast? with
  | none => mops
  | some t => mops.dropLast ++ [mergeTail t m]

/-! ### Fences -/

/-- Does the queue still hold a MOP older than the fence (R106)? -/
def fenceWaits (mops : List Mop) (f : Fence) : Bool := mops.any fun m => m.id < f.mark

end Sys2Proof.Machine
end

