-- ==== Sys2Proof/Machine/Ops.lean ====
section
/-! DEFINITION. The named operations over the block's state: table accessors, surface claims, drain and end of clear-all,
fence completion, removal of a MOP, response queue entries, fault report and halt, and the answer of the management
port. -/

namespace Sys2Proof.Machine

/-! ### Table accessors -/

/-- The surface table entry at an index. -/
def State.surface (s : State) (k : Fin 8) : Option Surface := s.st[k.val]

/-- The state with another entry at a surface index. -/
def State.withSurface (s : State) (k : Fin 8) (d : Option Surface) : State := { s with st := s.st.set k.val d }

/-- The window descriptor at an index. -/
def State.window (s : State) (i : Fin 16) : Window := s.wt.windows[i.val]

/-- The state with another descriptor at a window index. -/
def State.withWindow (s : State) (i : Fin 16) (w : Window) : State :=
  { s with wt := { s.wt with windows := s.wt.windows.set i.val w } }

/-- The state with another fault unit. -/
def State.withFu (s : State) (fu : FaultUnit) : State := { s with fu := fu }

/-- The tag record at a tag number. -/
def State.tag (s : State) (t : Fin 8) : Tag := s.msp.tags[t.val]

/-- The state with another tag record. -/
def State.withTag (s : State) (t : Fin 8) (x : Tag) : State :=
  { s with msp := { s.msp with tags := s.msp.tags.set t.val x } }

/-- The state with another list of MOPs in the order queue. -/
def State.withMops (s : State) (mops : List Mop) : State := { s with oq := { s.oq with mops := mops } }

/-- The state with another list of response queue entries. -/
def State.withEntries (s : State) (entries : List Entry) : State := { s with hsp := { s.hsp with entries := entries } }

/-! ### Window states that hold a surface -/

/-- Does the window hold its surface: is it LIVE, HALTED or CLOSING (R7, Table 2-4)? -/
def Window.holds (w : Window) : Bool := w.state = .live || w.state = .halted || w.state = .closing

/-- One more, up to the value at which a window counter stays (R19). -/
def countUp (c n : Nat) : Nat := min Config.counterMax (c + n)

/-! ### Surface claims -/

/-- An open claim: the surface's reference count rises by 1 (R7). -/
def openClaim (k : Fin 8) (s : State) : State :=
  s.withSurface k ((s.surface k).map fun d => { d with refCount := d.refCount + 1 })

/-- A release claim: the surface's reference count falls by 1 (R7). -/
def releaseClaim (k : Fin 8) (s : State) : State :=
  s.withSurface k ((s.surface k).map fun d => { d with refCount := d.refCount - 1 })

/-! ### Leaving service -/

/-- A window passes to STAGED: derived fields 0, release claim, WINDOW_CLOSED (R28, R29). -/
def toStaged (i : Fin 16) (s : State) : State :=
  let w := s.window i
  let s := releaseClaim w.staged.surface s
  let s := s.withWindow i { w with state := .staged, derived := Derived.zero }
  s.withFu (noticeWindowClosed i s.fu)

/-- A window passes to EMPTY: every field but the generation 0, release claim, no WINDOW_CLOSED (R29, R34). -/
def toEmpty (i : Fin 16) (s : State) : State :=
  let w := s.window i
  (releaseClaim w.staged.surface s).withWindow i (Window.emptied w.generation)

/-- Is any window CLOSING? -/
def anyClosing (wt : WindowTable) : Bool := (List.finRange 16).any fun i => wt.windows[i.val].state = .closing

/-- A pending clear-all ends when no window is CLOSING: flag cleared, every surface EMPTY, CLEAR_DONE (R13, R35). -/
def endClearAll (s : State) : State :=
  if s.wt.clearAllPending && !anyClosing s.wt then
    { s with
      wt := { s.wt with clearAllPending := false }
      st := Vector.replicate 8 none
      fu := noticeClearDone s.fu }
  else s

/-- The drain of a CLOSING window whose in-flight count is 0 (R29). -/
def drain (i : Fin 16) (s : State) : State :=
  if (s.window i).state = .closing && (s.window i).inFlight = 0 then
    if s.wt.clearAllPending then endClearAll (toEmpty i s) else toStaged i s
  else s

/-- A MOP of the window leaves: its in-flight count falls by 1, and the window may drain (R20, R29). -/
def leaveWindow (i : Fin 16) (s : State) : State :=
  let w := s.window i
  drain i (s.withWindow i { w with inFlight := w.inFlight - 1 })

/-! ### Fences -/

/-- Fences whose older MOPs have all left complete together, in order, and FENCE_DONE is set once (R106). -/
def completeFences (s : State) : State :=
  match (s.oq.fences.filter fun f => !fenceWaits s.oq.mops f).getLast? with
  | none => s
  | some f =>
    { s with
      oq :=
        { s.oq with
          fences := s.oq.fences.filter (fenceWaits s.oq.mops)
          lastFence := some f.number }
      fu := noticeFenceDone s.fu }

/-! ### Removal -/

/-- A window tag's claim at the removal of its MOP (R20, R102). -/
def leaveTag (t : Option WindowTag) (s : State) : State :=
  match t with
  | none => s
  | some t => leaveWindow t.index s

/-- The removal of a MOP: its entry is freed, its window's in-flight count falls, fences may complete (R102). -/
def removeMop (m : Mop) (s : State) : State :=
  completeFences (leaveTag m.window (s.withMops (dropMop m.id s.oq.mops)))

/-! ### Response queue entries -/

/-- A READ MOP of the entry fails or is cancelled: error flag set, word 0, count down by `n` (R84, R85). -/
def Entry.fail (e : Entry) (n : Nat) : Entry :=
  { e with
    word := 0#32
    error := true
    outstanding := e.outstanding - n }

/-- A READ MOP of the entry completes OK: the word is placed unless the error flag is set, count down by 1 (R82). -/
def Entry.supply (e : Entry) (f : Word → Word) : Entry :=
  { e with
    word := if e.error then e.word else f e.word
    outstanding := e.outstanding - 1 }

/-- The entry that a READ MOP links to changes (R82, R84). -/
def updateEntry (id : Nat) (f : Entry → Entry) (entries : List Entry) : List Entry :=
  entries.map fun e => if e.id = id then f e else e

/-- The entries after these READ MOPs of theirs have been cancelled (R85, R103). -/
def failEntries (cancelled : List Mop) (entries : List Entry) : List Entry :=
  entries.map fun e =>
    let n := cancelled.countP fun m => m.link = some e.id
    if n = 0 then e else e.fail n

/-- Is an entry complete (R83)? -/
def Entry.complete (e : Entry) : Bool := e.outstanding = 0

/-! ### Faults and halts -/

/-- The window's descriptor after a halt that cancels `n` of its MOPs (R31). -/
def Window.afterHalt (w : Window) (n : Nat) : Window :=
  { w with
    state := .halted
    inFlight := w.inFlight - n
    counters := { w.counters with cancelled := countUp w.counters.cancelled n } }

/-- The halt of a window: HALTED, every PENDING MOP of it cancelled, WINDOW_HALTED, fences completed (R31, R103,
R139). -/
def haltWindow (i : Fin 16) (s : State) : State :=
  let cancelled := s.oq.mops.filter fun m => m.cancelledBy i
  let s1 := s.withWindow i ((s.window i).afterHalt cancelled.length)
  let s2 := s1.withMops (s.oq.mops.filter fun m => !m.cancelledBy i)
  let s3 := s2.withEntries (failEntries cancelled s.hsp.entries)
  completeFences (s3.withFu (noticeWindowHalted i s3.fu))

/-- The window that a fault halts: the one it names, when that is LIVE with stop-on-fault on (R138). -/
def haltedByFault (s : State) (t : Option WindowTag) : Option (Fin 16) :=
  match t with
  | none => none
  | some t =>
    if (s.window t.index).state = .live && (s.window t.index).staged.stopOnFault then some t.index else none

/-- The fault unit takes a fault: the record with its halted flag is logged or counted as lost, and the window halts
all the same (R136, R138, R139). -/
def reportFault (r : FaultRecord) (s : State) : State :=
  match haltedByFault s r.window with
  | none => s.withFu (logFault { r with halted := false } s.fu)
  | some i => haltWindow i (s.withFu (logFault { r with halted := true } s.fu))

/-- The record of a fault of a MOP's command, answered ERR or expired (R135, Table 9-2). -/
def mopFault (kind : FaultKind) (phase : Option Phase) (m : Mop) (t : Fin 8) : FaultRecord where
  kind := kind
  phase := phase
  window := m.window
  hostAddr := some m.hostAddr
  block := some m.block
  tag := some t
  halted := false
  status := none

/-! ### The management port's answer -/

/-- What taking a management command leaves: the state, the status and the result bytes of an OK answer (R149). -/
structure Reply where
  state : State
  status : Status
  result : List Byte

/-- A refused command changes no state (R154). -/
def refuse (s : State) (st : Status) : Reply where
  state := s
  status := st
  result := []

/-- A command carried out, with its result bytes. -/
def done (s : State) (result : List Byte) : Reply where
  state := s
  status := .ok
  result := result

/-- The response bytes of a frame: the status, then the result, which is all 0 unless the status is OK (R153,
R154). -/
def responseBytes (code : Byte) (st : Status) (result : List Byte) : List Byte :=
  st.code :: (if st = .ok then result else List.replicate (resultCount code) 0#8)

/-- The frame receive state right after the taking event: the response is fixed and the phase is RESPONSE (R148,
R149). -/
def answeredFrame (code : Byte) (params : List Byte) (r : Reply) : Frame where
  phase := .response
  bitCount := 0
  shift := 0#8
  code := some code
  params := params
  response := responseBytes code r.status r.result

/-- The taking event: the owning block's effect and the port's answer together (R149). SM_CS_N is low in a frame. -/
def answer (code : Byte) (params : List Byte) (r : Reply) : State :=
  { r.state with
    mgp := answeredFrame code params r
    csN := false }

/-- While RESET_N is low no event of the block has an effect (R124, R133, R146, R162). -/
def unlessReset (s : State) (f : State → State) : State := if s.resetN then f s else s

end Sys2Proof.Machine
end

