-- ==== Sys2Proof/Machine/HostSide.lean ====
section
/-! DEFINITION. The host side port's commands, REQUEST_HANDSHAKE and ENTRY_ANSWERED, with the decoder's admission and
the effects of a taken access (Chapters 3 and 8). -/

namespace Sys2Proof.Machine

/-! ### Admission -/

/-- Do the admission conditions hold for an access against the state as it stands (R52, Table 3-6)? -/
def admissible (s : State) (a : Access) : Bool :=
  ((accessMops s a).length = 0 || s.oq.mops.length + (accessMops s a).length ≤ Config.oqCapacity)
    && (a.write || s.hsp.entries.length < Config.rqCapacity)

/-- The level of H_ACCEPT: high while RESET_N is high and an access is presented that may be taken, low while a presented
access may not be taken and while RESET_N is low (R125, R128, R133). That it is low while no access is presented is a
DESIGN CHOICE, for the spec gives the level for a presented access only (notes/assumptions/21.md). -/
def hAccept (s : State) : Bool :=
  match s.hsp.request with
  | none => false
  | some a => s.resetN && admissible s a

/-! ### A taken access -/

/-- How many MOPs an access creates in the queue: a merged first MOP is not created (R53, R54). -/
def createdCount (s : State) (a : Access) : Nat :=
  match accessMops s a with
  | [] => 0
  | m :: rest => if mergesInto s.oq m then rest.length else rest.length + 1

/-- The queue after an access: its first MOP merged into the tail or created, its later ones created (R49, R53). -/
def queueAfter (s : State) (a : Access) : List Mop :=
  match accessMops s a with
  | [] => s.oq.mops
  | m :: rest => if mergesInto s.oq m then mergeIntoTail s.oq.mops m ++ rest else s.oq.mops ++ m :: rest

/-- The MOPs of an access enter the order queue (R50, R53). -/
def admitMops (a : Access) (s : State) : State :=
  { s with
    oq :=
      { s.oq with
        mops := queueAfter s a
        nextId := s.oq.nextId + (accessMops s a).length } }

/-- A taken read gets its response queue entry at the young end, waiting on `n` MOPs or complete (R51, R127). -/
def pushEntry (a : Access) (n : Nat) (error : Bool) (s : State) : State :=
  if a.write then s
  else
    { s with
      hsp :=
        { s.hsp with
          entries := s.hsp.entries ++ [{ id := s.hsp.nextId, word := 0#32, outstanding := n, error := error }]
          nextId := s.hsp.nextId + 1 } }

/-- The decoder's claims on the window of a transformed access (R54). -/
def claimAccepted (i : Fin 16) (created : Nat) (s : State) : State :=
  let w := s.window i
  s.withWindow i
    { w with
      inFlight := w.inFlight + created
      counters := { w.counters with accepted := countUp w.counters.accepted 1 } }

/-- The decoder's claim on the window of a refused access (R54). -/
def claimRefused (i : Fin 16) (s : State) : State :=
  let w := s.window i
  s.withWindow i { w with counters := { w.counters with refused := countUp w.counters.refused 1 } }

/-- The record of a WRONG_DIRECTION fault (R55, R135). -/
def wrongDirectionFault (s : State) (i : Fin 16) (a : Access) : FaultRecord where
  kind := .wrongDirection
  phase := none
  window := some { index := i, generation := (s.window i).generation }
  hostAddr := some (BitVec.ofNat 32 (accessAddr a))
  block := none
  tag := none
  halted := false
  status := none

/-- A taken access: matched, transformed, admitted and counted whole (R38, R41, R42, R54 to R57). -/
def takeAccess (a : Access) (s : State) : State :=
  match disposition s.wt a with
  | .passThrough => pushEntry a (accessMops s a).length false (admitMops a s)
  | .transformed i =>
    pushEntry a (accessMops s a).length false (claimAccepted i (createdCount s a) (admitMops a s))
  | .wrongDirection i => reportFault (wrongDirectionFault s i a) (pushEntry a 0 true (claimRefused i s))
  | .haltedRefusal i => pushEntry a 0 true (claimRefused i s)

/-- The request channel holds this access, presented and not taken, or none. -/
def setRequest (r : Option Access) (s : State) : State := { s with hsp := { s.hsp with request := r } }

/-- The host presents an access: it is taken when RESET_N is high and the admission conditions hold, and is held
otherwise (R125, R128, R133). -/
def presentAccess (a : Access) (s : State) : State :=
  if s.resetN && admissible s a then takeAccess a (setRequest none s) else setRequest (some a) s

/-- The host lowers H_VALID: an access presented and not taken is withdrawn, which has no other effect (R125). -/
def withdrawAccess (s : State) : State := setRequest none s

/-- What the host drives on the request channel takes effect: an access is presented, in place of any that stood there,
or H_VALID is lowered (R125). -/
def driveRequest (r : Option Access) (s : State) : State :=
  match r with
  | some a => presentAccess a s
  | none => withdrawAccess s

/-- REQUEST_HANDSHAKE (R125). -/
def execRequestHandshake (r : Option Access) (s : State) : Host.Outcome State Fault Refusal := .next (driveRequest r s)

/-! ### The response channel -/

/-- What the response channel offers: the head entry's word and flag when the head is complete (R130). H_RVALID is
high exactly when this is not `none`. -/
def hOffer (s : State) : Option HostResponse :=
  match s.hsp.entries with
  | [] => none
  | e :: _ => if e.complete then some { data := e.word, error := e.error } else none

/-- The host takes the offered response in the event that offers it, and the entry leaves (R130). -/
def answerHead (s : State) : State :=
  match s.hsp.entries with
  | [] => s
  | e :: rest =>
    if e.complete then
      { s with
        hsp :=
          { s.hsp with
            entries := rest
            lastResponse := some { data := e.word, error := e.error } } }
    else s

/-- ENTRY_ANSWERED (R130); without a complete head there is no such event and nothing changes. -/
def execEntryAnswered (s : State) : Host.Outcome State Fault Refusal := .next (unlessReset s answerHead)

end Sys2Proof.Machine
end

