-- ==== Sys2Proof/Machine/DeviceCommands.lean ====
section
/-! DEFINITION. The management commands on the device as a whole, the fence list, the fault log, the tags and both
tables: GET_STATUS, CONFIGURE, ACK_NOTICE, FENCE, POP_FAULT, LINK_RECOVER, CLEAR_ALL and UNKNOWN_COMMAND. -/

namespace Sys2Proof.Machine

/-! ### GET_STATUS -/

/-- Is a tag OUTSTANDING? -/
def Tag.isOutstanding : Tag → Bool
  | .outstanding _ _ _ _ => true
  | .free => false
  | .quarantined _ _ => false

/-- Is a tag QUARANTINED? -/
def Tag.isQuarantined : Tag → Bool
  | .quarantined _ _ => true
  | .free => false
  | .outstanding _ _ _ _ => false

/-- How many tags pass a test (R113). -/
def countTags (p : Tag → Bool) (m : MemorySide) : Nat := (List.finRange 8).countP fun t => p m.tags[t.val]

/-- The state flags byte of GET_STATUS: last completed fence valid, clear-all pending (R155, Table 10-5). -/
def stateFlags (s : State) : Byte := flagBit s.oq.lastFence.isSome 0 ||| flagBit s.wt.clearAllPending 1

/-- The 17 result bytes of GET_STATUS (R155, Table 10-5). -/
def statusBytes (s : State) : List Byte :=
  [ BitVec.ofNat 8 s.oq.mops.length,
    BitVec.ofNat 8 s.hsp.entries.length,
    BitVec.ofNat 8 (countTags Tag.isOutstanding s.msp),
    BitVec.ofNat 8 (countTags Tag.isQuarantined s.msp),
    BitVec.ofNat 8 s.fu.log.length,
    BitVec.ofNat 8 s.fu.lost,
    BitVec.ofNat 8 s.oq.fences.length,
    s.oq.nextFence,
    s.oq.lastFence.getD 0#8,
    stateFlags s,
    noticesByte s.fu.notices ] ++ bytes16 s.fu.closedSet ++ bytes16 s.fu.haltedSet
    ++ [enablesByte s.fu.enables, s.msp.timeout]

/-- GET_STATUS taken (R155, R149). -/
def takeGetStatus (s : State) : State := answer 0x10#8 [] (done s (statusBytes s))

/-- GET_STATUS (R155). -/
def execGetStatus (s : State) : Host.Outcome State Fault Refusal := .next (unlessReset s takeGetStatus)

/-! ### CONFIGURE and ACK_NOTICE -/

/-- The timeout setting and the attention enables change in one event (R116, R144, R156). -/
def setConfiguration (timeout enables : Byte) (s : State) : State :=
  { s with
    msp := { s.msp with timeout := timeout }
    fu := { s.fu with enables := enablesOf enables } }

/-- CONFIGURE taken (R156, R149). -/
def takeConfigure (timeout enables : Byte) (s : State) : State :=
  answer 0x11#8 [timeout, enables] (done (setConfiguration timeout enables s) [])

/-- CONFIGURE (R156). -/
def execConfigure (timeout enables : Byte) (s : State) : Host.Outcome State Fault Refusal :=
  .next (unlessReset s (takeConfigure timeout enables))

/-- ACK_NOTICE taken (R142, R149). -/
def takeAckNotice (mask : Byte) (s : State) : State :=
  answer 0x12#8 [mask] (done (s.withFu (acknowledge mask s.fu)) [])

/-- ACK_NOTICE (R142). -/
def execAckNotice (mask : Byte) (s : State) : Host.Outcome State Fault Refusal :=
  .next (unlessReset s (takeAckNotice mask))

/-! ### FENCE -/

/-- The next fence number is used: it rises by 1, from 255 to 0 (R105). -/
def useFenceNumber (s : State) : State := { s with oq := { s.oq with nextFence := s.oq.nextFence + 1#8 } }

/-- A fence on an empty queue completes in its own event (R105, R106). -/
def completeAtOnce (n : Byte) (s : State) : State :=
  { s with
    oq := { s.oq with lastFence := some n }
    fu := noticeFenceDone s.fu }

/-- A marker is placed behind the tail: every MOP created so far is older than it (R105). -/
def placeFence (n : Byte) (s : State) : State :=
  { s with oq := { s.oq with fences := s.oq.fences ++ [{ number := n, mark := s.oq.nextId }] } }

/-- FENCE's check, effect and number (R105). -/
def fenceReply (s : State) : Reply :=
  if Config.fenceCapacity ≤ s.oq.fences.length then refuse s .full
  else
    match s.oq.mops with
    | [] => done (completeAtOnce s.oq.nextFence (useFenceNumber s)) [s.oq.nextFence]
    | _ :: _ => done (placeFence s.oq.nextFence (useFenceNumber s)) [s.oq.nextFence]

/-- FENCE taken (R105, R149). -/
def takeFence (s : State) : State := answer 0x40#8 [] (fenceReply s)

/-- FENCE (R105). -/
def execFence (s : State) : Host.Outcome State Fault Refusal := .next (unlessReset s takeFence)

/-! ### POP_FAULT -/

/-- The kind byte of a fault record (R160, Table 10-11). -/
def FaultKind.code : FaultKind → Byte
  | .fetchError => 1#8
  | .readError => 2#8
  | .writeError => 3#8
  | .timeout => 4#8
  | .lateResponse => 5#8
  | .unknownTag => 6#8
  | .wrongDirection => 7#8

/-- The phase byte of a fault record (R160, Table 10-11). -/
def Phase.code : Phase → Byte
  | .fetch => 1#8
  | .read => 2#8
  | .write => 3#8

/-- The response status byte of a fault record (R160, Table 10-11). -/
def RespStatus.code : RespStatus → Byte
  | .ok => 0#8
  | .err => 1#8

/-- The present flags byte of a fault record, with the halted flag at bit 6 (R160, Table 10-11). -/
def presentFlags (r : FaultRecord) : Byte :=
  flagBit r.phase.isSome 0 ||| flagBit r.window.isSome 1 ||| flagBit r.hostAddr.isSome 2 ||| flagBit r.block.isSome 3
    ||| flagBit r.tag.isSome 4 ||| flagBit r.status.isSome 5 ||| flagBit r.halted 6

/-- The first fifteen result bytes of POP_FAULT for a record; an absent field reads 0 (R160, Table 10-11). -/
def recordBytes (r : FaultRecord) : List Byte :=
  [ r.kind.code,
    presentFlags r,
    (r.phase.map Phase.code).getD 0#8,
    (r.window.map fun t => BitVec.ofNat 8 t.index.val).getD 0#8,
    (r.window.map fun t => t.generation).getD 0#8 ] ++ bytes32 (r.hostAddr.getD 0#32) ++ bytes32 (r.block.getD 0#32)
    ++ [ (r.tag.map fun t => BitVec.ofNat 8 t.val).getD 0#8,
         (r.status.map RespStatus.code).getD 0#8 ]

/-- The oldest record leaves the log (R137). -/
def dropOldest (s : State) : State := s.withFu { s.fu with log := s.fu.log.tail }

/-- POP_FAULT's effect and result: the oldest record, or kind NONE, with the lost counter (R137, R160). -/
def popFaultReply (s : State) : Reply :=
  match s.fu.log with
  | [] => done s (List.replicate 15 0#8 ++ [BitVec.ofNat 8 s.fu.lost])
  | r :: _ => done (dropOldest s) (recordBytes r ++ [BitVec.ofNat 8 s.fu.lost])

/-- POP_FAULT taken (R137, R149). -/
def takePopFault (s : State) : State := answer 0x50#8 [] (popFaultReply s)

/-- POP_FAULT (R137). -/
def execPopFault (s : State) : Host.Outcome State Fault Refusal := .next (unlessReset s takePopFault)

/-! ### LINK_RECOVER -/

/-- A QUARANTINED tag becomes FREE; another tag keeps its state (R122). -/
def Tag.recovered : Tag → Tag
  | .quarantined _ _ => .free
  | .free => .free
  | .outstanding id phase d block => .outstanding id phase d block

/-- Every QUARANTINED tag becomes FREE (R122). -/
def recoverTags (s : State) : State :=
  { s with msp := { s.msp with tags := Vector.ofFn fun t => s.msp.tags[t.val].recovered } }

/-- LINK_RECOVER taken, with the number of tags freed (R122, R149, R161). -/
def takeLinkRecover (s : State) : State :=
  answer 0x60#8 [] (done (recoverTags s) [BitVec.ofNat 8 (countTags Tag.isQuarantined s.msp)])

/-- LINK_RECOVER (R122). -/
def execLinkRecover (s : State) : Host.Outcome State Fault Refusal := .next (unlessReset s takeLinkRecover)

/-! ### CLEAR_ALL -/

/-- Does CLEAR_ALL move this window from LIVE or HALTED straight to EMPTY (R34)? -/
def Window.clearedAtOnce (w : Window) : Bool := w.matching && w.inFlight = 0

/-- What CLEAR_ALL makes of a window (R34). -/
def Window.cleared (w : Window) : Window :=
  match w.state with
  | .empty => Window.emptied w.generation
  | .staged => Window.emptied w.generation
  | .live => if w.inFlight = 0 then Window.emptied w.generation else { w with state := .closing }
  | .halted => if w.inFlight = 0 then Window.emptied w.generation else { w with state := .closing }
  | .closing => w

/-- How many windows release this surface at a CLEAR_ALL (R7, R34). -/
def releasedBy (wt : WindowTable) (k : Fin 8) : Nat :=
  (List.finRange 16).countP fun i => wt.windows[i.val].clearedAtOnce && wt.windows[i.val].staged.surface = k

/-- The tables and the pending flag right after CLEAR_ALL, before a clear-all that is already over ends (R34). -/
def startClearAll (s : State) : State :=
  { s with
    wt :=
      { windows := Vector.ofFn fun i => s.wt.windows[i.val].cleared
        clearAllPending := true }
    st := Vector.ofFn fun k => s.st[k.val].map fun d => { d with refCount := d.refCount - releasedBy s.wt k } }

/-- CLEAR_ALL's check and effect (R34, R35). -/
def clearAllReply (s : State) : Reply :=
  if s.wt.clearAllPending then refuse s .busy else done (endClearAll (startClearAll s)) []

/-- CLEAR_ALL taken (R34, R149). -/
def takeClearAll (s : State) : State := answer 0x70#8 [] (clearAllReply s)

/-- CLEAR_ALL (R34). -/
def execClearAll (s : State) : Host.Outcome State Fault Refusal := .next (unlessReset s takeClearAll)

/-! ### UNKNOWN_COMMAND -/

/-- An unknown command byte taken: status UNKNOWN, no result, no change outside the frame (R152). -/
def takeUnknown (code : Byte) (s : State) : State := answer code [] (refuse s .unknown)

end Sys2Proof.Machine
end

