-- ==== Sys2Proof/Machine/SurfaceCommands.lean ====
section
/-! DEFINITION. The surface commands SET_SURFACE, DROP_SURFACE and READ_SURFACE (Chapter 1, layouts in Chapter 10). -/

namespace Sys2Proof.Machine

/-- The index of a surface that an index byte names; a value above 7 names none (R157). -/
def surfaceIndex (b : Byte) : Option (Fin 8) := if h : b.toNat < 8 then some ⟨b.toNat, h⟩ else none

/-- The descriptor's field tests of R10 that follow a valid format code; the sums do not wrap. -/
def geometryValid (f : PixelFormat) (p : SurfaceParams) : Bool :=
  p.base.toNat % 64 = 0
    && 4 ≤ p.pitch.toNat && p.pitch.toNat ≤ 65532 && p.pitch.toNat % 4 = 0
    && 1 ≤ p.width.toNat && p.width.toNat ≤ 4096
    && 1 ≤ p.height.toNat && p.height.toNat ≤ 4096
    && p.width.toNat * f.bpp ≤ p.pitch.toNat
    && p.base.toNat + p.pitch.toNat * (p.height.toNat - 1) + p.width.toNat * f.bpp - 1 ≤ Config.addrMax

/-- The descriptor that valid parameters define, with count 0 (R9). -/
def surfaceOf (f : PixelFormat) (p : SurfaceParams) : Surface where
  format := f
  base := p.base
  pitch := p.pitch
  width := p.width
  height := p.height
  refCount := 0

/-- The index and descriptor of SET_SURFACE's parameters, or `none` when a field is invalid (R10). -/
def checkSurface (p : SurfaceParams) : Option (Fin 8 × Surface) :=
  match surfaceIndex p.index, formatOfCode p.format with
  | some k, some f => if geometryValid f p then some (k, surfaceOf f p) else none
  | _, _ => none

/-- Is a surface table entry pinned (R8)? -/
def pinned (d : Option Surface) : Bool :=
  match d with
  | none => false
  | some d => d.refCount ≠ 0

/-- SET_SURFACE's checks and effect (R9). -/
def setSurfaceReply (p : SurfaceParams) (s : State) : Reply :=
  if s.wt.clearAllPending then refuse s .busy
  else
    match checkSurface p with
    | none => refuse s .badArg
    | some (k, d) => if pinned (s.surface k) then refuse s .pinned else done (s.withSurface k (some d)) []

/-- SET_SURFACE taken (R9, R149). -/
def takeSetSurface (p : SurfaceParams) (s : State) : State :=
  answer 0x20#8 (surfaceParamBytes p) (setSurfaceReply p s)

/-- SET_SURFACE (R9). -/
def execSetSurface (p : SurfaceParams) (s : State) : Host.Outcome State Fault Refusal :=
  .next (unlessReset s (takeSetSurface p))

/-- DROP_SURFACE's checks and effect (R11). -/
def dropSurfaceReply (index : Byte) (s : State) : Reply :=
  if s.wt.clearAllPending then refuse s .busy
  else
    match surfaceIndex index with
    | none => refuse s .badArg
    | some k =>
      match s.surface k with
      | none => refuse s .badState
      | some d => if d.refCount ≠ 0 then refuse s .pinned else done (s.withSurface k none) []

/-- DROP_SURFACE taken (R11, R149). -/
def takeDropSurface (index : Byte) (s : State) : State := answer 0x21#8 [index] (dropSurfaceReply index s)

/-- DROP_SURFACE (R11). -/
def execDropSurface (index : Byte) (s : State) : Host.Outcome State Fault Refusal :=
  .next (unlessReset s (takeDropSurface index))

/-- The thirteen result bytes of READ_SURFACE (R12, R157, Table 10-7). -/
def surfaceBytes (d : Option Surface) : List Byte :=
  match d with
  | none => List.replicate 13 0#8
  | some d =>
    [0x01#8, d.format.code] ++ bytes32 d.base ++ bytes16 d.pitch ++ bytes16 d.width ++ bytes16 d.height
      ++ [BitVec.ofNat 8 d.refCount]

/-- READ_SURFACE's check and result (R12). -/
def readSurfaceReply (index : Byte) (s : State) : Reply :=
  match surfaceIndex index with
  | none => refuse s .badArg
  | some k => done s (surfaceBytes (s.surface k))

/-- READ_SURFACE taken (R12, R149). -/
def takeReadSurface (index : Byte) (s : State) : State := answer 0x22#8 [index] (readSurfaceReply index s)

/-- READ_SURFACE (R12). -/
def execReadSurface (index : Byte) (s : State) : Host.Outcome State Fault Refusal :=
  .next (unlessReset s (takeReadSurface index))

end Sys2Proof.Machine
end

