-- ==== Sys2Proof/Machine/WindowCommands.lean ====
section
/-! DEFINITION. The window commands SET_WINDOW, OPEN_WINDOW, CLOSE_WINDOW, RESUME_WINDOW and READ_WINDOW (Chapter 2,
layouts in Chapter 10). -/

namespace Sys2Proof.Machine

/-- The index of a window that an index byte names; a value above 15 names none (R158). -/
def windowIndex (b : Byte) : Option (Fin 16) := if h : b.toNat < 16 then some ⟨b.toNat, h⟩ else none

/-- The kind that a kind byte names; a value above 3 names none (R22, R158). -/
def kindOfCode (b : Byte) : Option Kind :=
  if b = 0#8 then some .direct
  else if b = 1#8 then some .expand
  else if b = 2#8 then some .coverage
  else if b = 3#8 then some .matchKey
  else none

/-- The code of a kind (R158, Table 10-9). -/
def Kind.code : Kind → Byte
  | .direct => 0#8
  | .expand => 1#8
  | .coverage => 2#8
  | .matchKey => 3#8

/-- The surface index of SET_WINDOW; a value above 7 is invalid (R22). -/
def stagedSurface (b : Byte) : Option (Fin 8) := if h : b.toNat < 8 then some ⟨b.toNat, h⟩ else none

/-! ### SET_WINDOW -/

/-- The clip coordinates are checked when the clip is present (R22). -/
def clipValid (p : WindowParams) : Bool :=
  p.clipLeft.toNat ≤ 4095 && p.clipTop.toNat ≤ 4095 && p.clipRight.toNat ≤ 4095 && p.clipBottom.toNat ≤ 4095
    && p.clipLeft.toNat ≤ p.clipRight.toNat && p.clipTop.toNat ≤ p.clipBottom.toNat

/-- The field tests of R22 but for the index, the kind and the surface index. Bits 7 to 3 of the options must be
clear. -/
def windowFieldsValid (p : WindowParams) : Bool :=
  p.options &&& 0xF8#8 = 0#8
    && p.hostBase.toNat % 4096 = 0
    && p.originX.toNat ≤ 4095 && p.originY.toNat ≤ 4095
    && 1 ≤ p.width.toNat && p.width.toNat ≤ 4096
    && 1 ≤ p.height.toNat && p.height.toNat ≤ 4096
    && (!p.options.getLsbD 0 || clipValid p)

/-- The clip that SET_WINDOW stores: none when its option bit is clear (R16, R21). -/
def clipOf (p : WindowParams) : Option Clip :=
  if p.options.getLsbD 0 then
    some { left := p.clipLeft, top := p.clipTop, right := p.clipRight, bottom := p.clipBottom }
  else none

/-- The staged fields that SET_WINDOW writes (R21). -/
def stagedOf (k : Kind) (surface : Fin 8) (p : WindowParams) : Staged where
  kind := k
  surface := surface
  hostBase := p.hostBase
  originX := p.originX
  originY := p.originY
  width := p.width
  height := p.height
  clip := clipOf p
  foreground := p.foreground
  background := if p.options.getLsbD 1 then some p.background else none
  key := p.key
  keyMask := p.keyMask
  stopOnFault := p.options.getLsbD 2

/-- The index and staged fields of SET_WINDOW's parameters, or `none` when a field is invalid (R22). -/
def checkWindow (p : WindowParams) : Option (Fin 16 × Staged) :=
  match windowIndex p.index, kindOfCode p.kind, stagedSurface p.surface with
  | some i, some k, some sf => if windowFieldsValid p then some (i, stagedOf k sf p) else none
  | _, _, _ => none

/-- SET_WINDOW's checks and effect (R21). -/
def setWindowReply (p : WindowParams) (s : State) : Reply :=
  if s.wt.clearAllPending then refuse s .busy
  else
    match checkWindow p with
    | none => refuse s .badArg
    | some (i, staged) =>
      if (s.window i).holds then refuse s .badState
      else done (s.withWindow i { s.window i with state := .staged, staged := staged }) []

/-- SET_WINDOW taken (R21, R149). -/
def takeSetWindow (p : WindowParams) (s : State) : State :=
  answer 0x30#8 (windowParamBytes p) (setWindowReply p s)

/-- SET_WINDOW (R21). -/
def execSetWindow (p : WindowParams) (s : State) : Host.Outcome State Fault Refusal :=
  .next (unlessReset s (takeSetWindow p))

/-! ### OPEN_WINDOW -/

/-- A number of bytes rounded up to whole host words: ceil(n / 4) × 4 (R17). -/
def wordBytes (n : Nat) : Nat := (n + 3) / 4 * 4

/-- The row bytes of a window of this kind and width (R17, Table 2-2). -/
def rowBytesOf (k : Kind) (width : Nat) (f : PixelFormat) : Nat :=
  match k with
  | .direct => wordBytes (width * f.bpp)
  | .expand => (width + 31) / 32 * 4
  | .coverage => (width + 7) / 8 * 4
  | .matchKey => (width + 31) / 32 * 4

/-- The derived fields of a window on a surface of this format (R17). -/
def deriveFields (w : Staged) (f : PixelFormat) : Derived :=
  let row := rowBytesOf w.kind w.width.toNat f
  { rowBytes := row
    span := row * w.height.toNat
    hostLimit := w.hostBase.toNat + row * w.height.toNat - 1 }

/-- The range check of OPEN_WINDOW (R25). -/
def rangeFits (d : Derived) : Bool := d.span ≤ Config.spanMax && d.hostLimit ≤ Config.addrMax

/-- Do two host ranges share an address (R26)? -/
def rangesOverlap (base limit base' limit' : Nat) : Bool := base ≤ limit' && base' ≤ limit

/-- Does the candidate range of a window meet the range of any other window in LIVE or HALTED (R26)? -/
def overlapsOpenWindow (wt : WindowTable) (i : Fin 16) (base limit : Nat) : Bool :=
  (List.finRange 16).any fun j =>
    j ≠ i && wt.windows[j.val].matching
      && rangesOverlap base limit wt.windows[j.val].staged.hostBase.toNat wt.windows[j.val].derived.hostLimit

/-- The window as OPEN_WINDOW leaves it (R24). -/
def Window.opened (w : Window) (d : Derived) : Window :=
  { w with
    state := .live
    generation := w.generation + 1#8
    derived := d
    counters := Counters.zero }

/-- OPEN_WINDOW's checks from the state check on, and its effect (R23, R24). -/
def openStaged (i : Fin 16) (s : State) : Reply :=
  if (s.window i).state ≠ .staged then refuse s .badState
  else
    match s.surface (s.window i).staged.surface with
    | none => refuse s .noSurface
    | some d =>
      let g := deriveFields (s.window i).staged d.format
      if !rangeFits g then refuse s .range
      else if overlapsOpenWindow s.wt i (s.window i).staged.hostBase.toNat g.hostLimit then refuse s .overlap
      else done (openClaim (s.window i).staged.surface (s.withWindow i ((s.window i).opened g))) []

/-- OPEN_WINDOW's checks and effect (R23, R24). -/
def openWindowReply (index : Byte) (s : State) : Reply :=
  if s.wt.clearAllPending then refuse s .busy
  else
    match windowIndex index with
    | none => refuse s .badArg
    | some i => openStaged i s

/-- OPEN_WINDOW taken (R24, R149). -/
def takeOpenWindow (index : Byte) (s : State) : State := answer 0x31#8 [index] (openWindowReply index s)

/-- OPEN_WINDOW (R23, R24). -/
def execOpenWindow (index : Byte) (s : State) : Host.Outcome State Fault Refusal :=
  .next (unlessReset s (takeOpenWindow index))

/-! ### CLOSE_WINDOW -/

/-- CLOSE_WINDOW on a LIVE or HALTED window: STAGED at once, or CLOSING while it has MOPs in flight (R28). -/
def closeOpen (i : Fin 16) (s : State) : State :=
  if (s.window i).inFlight = 0 then toStaged i s else s.withWindow i { s.window i with state := .closing }

/-- CLOSE_WINDOW's checks and effect (R28). -/
def closeWindowReply (index : Byte) (s : State) : Reply :=
  if s.wt.clearAllPending then refuse s .busy
  else
    match windowIndex index with
    | none => refuse s .badArg
    | some i => if (s.window i).matching then done (closeOpen i s) [] else refuse s .badState

/-- CLOSE_WINDOW taken (R28, R149). -/
def takeCloseWindow (index : Byte) (s : State) : State := answer 0x32#8 [index] (closeWindowReply index s)

/-- CLOSE_WINDOW (R28). -/
def execCloseWindow (index : Byte) (s : State) : Host.Outcome State Fault Refusal :=
  .next (unlessReset s (takeCloseWindow index))

/-! ### RESUME_WINDOW -/

/-- RESUME_WINDOW's checks and effect (R32). -/
def resumeWindowReply (index : Byte) (s : State) : Reply :=
  if s.wt.clearAllPending then refuse s .busy
  else
    match windowIndex index with
    | none => refuse s .badArg
    | some i =>
      if (s.window i).state = .halted then done (s.withWindow i { s.window i with state := .live }) []
      else refuse s .badState

/-- RESUME_WINDOW taken (R32, R149). -/
def takeResumeWindow (index : Byte) (s : State) : State := answer 0x33#8 [index] (resumeWindowReply index s)

/-- RESUME_WINDOW (R32). -/
def execResumeWindow (index : Byte) (s : State) : Host.Outcome State Fault Refusal :=
  .next (unlessReset s (takeResumeWindow index))

/-! ### READ_WINDOW -/

/-- The state byte of READ_WINDOW (R159, Table 10-10). -/
def WindowState.code : WindowState → Byte
  | .empty => 0#8
  | .staged => 1#8
  | .live => 2#8
  | .halted => 3#8
  | .closing => 4#8

/-- The options byte of a stored descriptor (R158, R159). -/
def optionsByte (w : Staged) : Byte :=
  flagBit w.clip.isSome 0 ||| flagBit w.background.isSome 1 ||| flagBit w.stopOnFault 2

/-- The clip coordinates as READ_WINDOW returns them: 0 when the clip is absent (R16, R159). -/
def clipBytes (c : Option Clip) : List Byte :=
  match c with
  | none => List.replicate 8 0#8
  | some c => bytes16 c.left ++ bytes16 c.top ++ bytes16 c.right ++ bytes16 c.bottom

/-- The staged fields, laid out as parameter bytes 1 to 39 of SET_WINDOW (R159). -/
def stagedBytes (w : Staged) : List Byte :=
  [w.kind.code, optionsByte w, BitVec.ofNat 8 w.surface.val] ++ bytes32 w.hostBase ++ bytes16 w.originX
    ++ bytes16 w.originY ++ bytes16 w.width ++ bytes16 w.height ++ clipBytes w.clip ++ bytes32 w.foreground
    ++ bytes32 (w.background.getD 0#32) ++ bytes32 w.key ++ bytes32 w.keyMask

/-- The 54 result bytes of READ_WINDOW (R159, Table 10-10). -/
def windowBytes (w : Window) : List Byte :=
  [w.state.code, w.generation] ++ stagedBytes w.staged ++ bytes16 (BitVec.ofNat 16 w.derived.rowBytes)
    ++ bytes32 (BitVec.ofNat 32 w.derived.span) ++ bytes16 (BitVec.ofNat 16 w.counters.accepted)
    ++ bytes16 (BitVec.ofNat 16 w.counters.refused) ++ bytes16 (BitVec.ofNat 16 w.counters.cancelled)
    ++ [BitVec.ofNat 8 w.inFlight]

/-- READ_WINDOW's check and result (R33). -/
def readWindowReply (index : Byte) (s : State) : Reply :=
  match windowIndex index with
  | none => refuse s .badArg
  | some i => done s (windowBytes (s.window i))

/-- READ_WINDOW taken (R33, R149). -/
def takeReadWindow (index : Byte) (s : State) : State := answer 0x34#8 [index] (readWindowReply index s)

/-- READ_WINDOW (R33). -/
def execReadWindow (index : Byte) (s : State) : Host.Outcome State Fault Refusal :=
  .next (unlessReset s (takeReadWindow index))

end Sys2Proof.Machine
end

