-- ==== Sys2Proof/Machine/ManagementPort.lean ====
section
/-! DEFINITION. The wires of the management port: the frame protocol over SM_CS_N, SM_SCK and SM_DI, the level of SM_DO,
and UNKNOWN_COMMAND (Chapter 10). -/

namespace Sys2Proof.Machine

/-- The command of a completed frame is taken (R148, R149). Events of other ports have no frame. -/
def takeCommand (i : Instr) (s : State) : State :=
  match i with
  | .getStatus => takeGetStatus s
  | .configure timeout enables => takeConfigure timeout enables s
  | .ackNotice mask => takeAckNotice mask s
  | .setSurface p => takeSetSurface p s
  | .dropSurface index => takeDropSurface index s
  | .readSurface index => takeReadSurface index s
  | .setWindow p => takeSetWindow p s
  | .openWindow index => takeOpenWindow index s
  | .closeWindow index => takeCloseWindow index s
  | .resumeWindow index => takeResumeWindow index s
  | .readWindow index => takeReadWindow index s
  | .fence => takeFence s
  | .popFault => takePopFault s
  | .linkRecover => takeLinkRecover s
  | .clearAll => takeClearAll s
  | .unknownCommand code => takeUnknown code s
  | .requestHandshake _ => s
  | .entryAnswered => s
  | .issue => s
  | .memoryResponse _ _ _ => s
  | .expiry _ => s
  | .smCsNFall => s
  | .smCsNRise => s
  | .resetNLow => s
  | .resetNRelease => s
  | .smSckRisingEdge _ => s

/-- The state with another frame receive state. -/
def State.withFrame (s : State) (f : Frame) : State := { s with mgp := f }

/-- The frame once the command byte of a command with parameters has completed (R148). -/
def expectParams (code : Byte) : Frame where
  phase := .parameters
  bitCount := 0
  shift := 0#8
  code := some code
  params := []
  response := []

/-- The command byte completes: PARAMETERS for a code with parameters, else the command is taken (R148, R152). -/
def completeCommandByte (code : Byte) (s : State) : State :=
  if paramCount code = 0 then takeCommand (decodeFrame code []) s else s.withFrame (expectParams code)

/-- A parameter byte completes: stored, and with the last one the command is taken (R148). -/
def completeParamByte (b : Byte) (s : State) : State :=
  match s.mgp.code with
  | none => s
  | some code =>
    if s.mgp.params.length + 1 = paramCount code then takeCommand (decodeFrame code (s.mgp.params ++ [b])) s
    else s.withFrame { s.mgp with bitCount := 0, shift := 0#8, params := s.mgp.params ++ [b] }

/-- A response byte has been sent: the next one follows, or TRAILING after the last (R148). -/
def completeResponseByte (f : Frame) : Frame :=
  if f.response.length ≤ 1 then { f with phase := .trailing, bitCount := 0, response := [] }
  else { f with bitCount := 0, response := f.response.tail }

/-- A received bit enters the byte, most significant bit first (R147). -/
def shiftIn (f : Frame) (di : Bool) : Byte := (f.shift <<< 1) ||| (if di then 1#8 else 0#8)

/-- A rising edge of SM_SCK while SM_CS_N is low (R147, R148, R151). Eight edges complete a byte. -/
def clockEdge (di : Bool) (s : State) : State :=
  match s.mgp.phase with
  | .idle => s
  | .command =>
    if s.mgp.bitCount < 7 then s.withFrame { s.mgp with bitCount := s.mgp.bitCount + 1, shift := shiftIn s.mgp di }
    else completeCommandByte (shiftIn s.mgp di) s
  | .parameters =>
    if s.mgp.bitCount < 7 then s.withFrame { s.mgp with bitCount := s.mgp.bitCount + 1, shift := shiftIn s.mgp di }
    else completeParamByte (shiftIn s.mgp di) s
  | .response =>
    if s.mgp.bitCount < 7 then s.withFrame { s.mgp with bitCount := s.mgp.bitCount + 1 }
    else s.withFrame (completeResponseByte s.mgp)
  | .trailing =>
    if s.mgp.bitCount < 7 then s.withFrame { s.mgp with bitCount := s.mgp.bitCount + 1 }
    else s.withFrame { s.mgp with bitCount := 0 }

/-- SM_SCK_RISING_EDGE (R148); edges while SM_CS_N is high are ignored (R147). -/
def execSmSckRisingEdge (di : Bool) (s : State) : Host.Outcome State Fault Refusal :=
  .next (unlessReset s fun s => if s.csN then s else clockEdge di s)

/-- A frame at the falling edge of SM_CS_N: COMMAND, no bits, no parameters, no response (R148). -/
def Frame.begun : Frame where
  phase := .command
  bitCount := 0
  shift := 0#8
  code := none
  params := []
  response := []

/-- SM_CS_N falls: a frame begins, but not while RESET_N is low (R148, R162). A level that is low already has no
falling edge. -/
def csFall (s : State) : State :=
  if s.csN then { s with csN := false, mgp := if s.resetN then Frame.begun else s.mgp } else s

/-- SM_CS_N_FALL (R148). -/
def execSmCsNFall (s : State) : Host.Outcome State Fault Refusal := .next (csFall s)

/-- SM_CS_N rises: the frame ends in any phase, what was not taken or not sent is dropped, and the port is in IDLE
(R148, R150). A level that is high already has no rising edge. -/
def csRise (s : State) : State := if s.csN then s else { s with csN := true, mgp := Frame.idle }

/-- SM_CS_N_RISE (R150). -/
def execSmCsNRise (s : State) : Host.Outcome State Fault Refusal := .next (csRise s)

/-- UNKNOWN_COMMAND (R152): the command byte completes. A byte that does name a command is no event of this row, and
does what the port does with that byte (notes/assumptions/7.md). -/
def execUnknownCommand (code : Byte) (s : State) : Host.Outcome State Fault Refusal :=
  .next (unlessReset s fun s => completeCommandByte code { s with csN := false })

/-- The level of SM_DO at the next rising edge of SM_SCK; `none` is high impedance (R147, Table 10-2, R162). -/
def smDo (s : State) : Option Bool :=
  if s.csN || !s.resetN then none
  else
    match s.mgp.phase with
    | .idle => none
    | .command => some false
    | .parameters => some false
    | .response => some ((s.mgp.response.headD 0#8).getLsbD (7 - s.mgp.bitCount))
    | .trailing => some false

end Sys2Proof.Machine
end

