-- ==== Sys2Proof/Machine/MemorySide.lean ====
section
/-! DEFINITION. The memory side port's commands, ISSUE, MEMORY_RESPONSE and EXPIRY, and the tick of the core clock that
runs the response timers (Chapters 6 and 7). -/

namespace Sys2Proof.Machine

/-! ### Issue -/

/-- The deadline of a command issued now: the setting times 256 core clock periods away, absent at setting 0
(R115). -/
def newDeadline (p : MemorySide) : Option Nat :=
  if p.timeout = 0#8 then none else some (p.clock + p.timeout.toNat * Config.timeoutUnit)

/-- The data of a MOP's write command: its final bytes as they stand (R73, R110). -/
def Mop.writeData (m : Mop) : Block :=
  match m.content with
  | .plain d => d
  | .blended d => d
  | .blend _ _ _ => Vector.replicate 64 0#8
  | .read _ _ => Vector.replicate 64 0#8

/-- The command that a MOP sends in a phase (R96, R110, Table 7-1); a READ command has no data. -/
def commandOf (m : Mop) (t : Fin 8) (phase : Phase) : MemCommand where
  write := phase = .write
  tag := t
  block := m.block
  mask := m.mask
  data := if phase = .write then m.writeData else Vector.replicate 64 0#8

/-- The state that a MOP enters when its command of this phase is issued with this tag (R91, R96). -/
def issuedState (t : Fin 8) : Phase → MopState
  | .fetch => .fetching t
  | .read => .issued t
  | .write => .issued t

/-- The issue of a MOP's command with a tag: the MOP's new state, the tag bound with its deadline, the command
accepted by the partner, all in one event (R96, R110, R114). -/
def issueMop (m : Mop) (t : Fin 8) (phase : Phase) (s : State) : State :=
  { s with
    oq := { s.oq with mops := updateMop m.id (fun x => { x with state := issuedState t phase }) s.oq.mops }
    msp :=
      { s.msp with
        tags := s.msp.tags.set t.val (.outstanding m.id phase (newDeadline s.msp) m.block)
        lastCommand := some (commandOf m t phase) } }

/-- One issue event: the oldest eligible command with the lowest FREE tag (R96). -/
def issueNext (s : State) : State :=
  match issueChoice s with
  | none => s
  | some (m, t) =>
    match m.nextPhase with
    | none => s
    | some phase => issueMop m t phase s

/-- ISSUE (R96); without an eligible command or a FREE tag there is no such event and nothing changes. -/
def execIssue (s : State) : Host.Outcome State Fault Refusal := .next (unlessReset s issueNext)

/-! ### Responses -/

/-- The response word after a READ MOP's data: bytes copied, or match bits by the key, key mask and format of the
window that the MOP's tag names, read at the completion (R79, R80, R81). -/
def convertRead (s : State) (m : Mop) (data : Block) (w : Word) : Word :=
  match m.content with
  | .read _ (.bytes entries) => placeBytes entries data w
  | .read _ (.bits entries) =>
    match m.window with
    | none => w
    | some t =>
      match s.surface (s.window t.index).staged.surface with
      | none => w
      | some d => placeBits entries d.format (s.window t.index).staged.key (s.window t.index).staged.keyMask data w
  | .plain _ => w
  | .blend _ _ _ => w
  | .blended _ => w

/-- The response queue entry of a READ MOP changes; other MOPs have none. -/
def onLinkedEntry (m : Mop) (f : Entry → Entry) (s : State) : State :=
  match m.link with
  | none => s
  | some link => s.withEntries (updateEntry link f s.hsp.entries)

/-- An RMW_WRITE after the combine with its fetched block: READY with final data and no tag (R70, R99). -/
def combinedMop (data : Block) (m : Mop) : Mop :=
  match m.content with
  | .blend pixels fg f =>
    { m with
      content := .blended (combine pixels fg f data)
      state := .ready }
  | .plain _ => m
  | .blended _ => m
  | .read _ _ => m

/-- A response with status OK at its MOP, by the phase of the tag (R98, R99, R100). -/
def deliverOk (m : Mop) (phase : Phase) (data : Block) (s : State) : State :=
  match phase with
  | .write => removeMop m s
  | .fetch => s.withMops (updateMop m.id (combinedMop data) s.oq.mops)
  | .read => removeMop m (onLinkedEntry m (fun e => e.supply (convertRead s m data)) s)

/-- The kind of fault that a response with status ERR reports, by the phase of the tag (R71, R84, R98). -/
def errKind : Phase → FaultKind
  | .fetch => .fetchError
  | .read => .readError
  | .write => .writeError

/-- A MOP whose command failed is removed; a READ MOP's entry takes the error (R71, R84, R98, R101). -/
def failMop (m : Mop) (s : State) : State := removeMop m (onLinkedEntry m (fun e => e.fail 1) s)

/-- A response with status ERR at its MOP: failed and reported (R71, R84, R98). -/
def deliverErr (m : Mop) (phase : Phase) (t : Fin 8) (s : State) : State :=
  reportFault (mopFault (errKind phase) none m t) (failMop m s)

/-- A response delivered to the MOP bound to its tag (R114). -/
def deliver (t : Fin 8) (id : Nat) (phase : Phase) (st : RespStatus) (data : Block) (s : State) : State :=
  match findMop id s.oq.mops with
  | none => s
  | some m =>
    match st with
    | .ok => deliverOk m phase data s
    | .err => deliverErr m phase t s

/-- The record of a late response (R119, R135). -/
def lateFault (t : Fin 8) (block : Word) (st : RespStatus) : FaultRecord where
  kind := .lateResponse
  phase := none
  window := none
  hostAddr := none
  block := some block
  tag := some t
  halted := false
  status := some st

/-- The record of a response to a FREE tag (R120, R135). -/
def unknownTagFault (t : Fin 8) : FaultRecord where
  kind := .unknownTag
  phase := none
  window := none
  hostAddr := none
  block := none
  tag := some t
  halted := false
  status := none

/-- A response routed by the state of the tag it names (R111, Table 7-2). -/
def acceptResponse (t : Fin 8) (st : RespStatus) (data : Block) (s : State) : State :=
  match s.tag t with
  | .free => reportFault (unknownTagFault t) s
  | .quarantined _ block => reportFault (lateFault t block st) (s.withTag t .free)
  | .outstanding id phase _ _ => deliver t id phase st data (s.withTag t .free)

/-- MEMORY_RESPONSE (R111); while RESET_N is low it is discarded with no record (R124). -/
def execMemoryResponse (t : Fin 8) (st : RespStatus) (data : Block) (s : State) : Host.Outcome State Fault Refusal :=
  .next (unlessReset s (acceptResponse t st data))

/-! ### Timers -/

/-- The bound MOP of an expired tag is failed with TIMEOUT (R101, R117). -/
def timeOutMop (t : Fin 8) (id : Nat) (phase : Phase) (s : State) : State :=
  match findMop id s.oq.mops with
  | none => s
  | some m => reportFault (mopFault .timeout (some phase) m t) (failMop m s)

/-- The expiry of a tag's timer: QUARANTINED, and the bound MOP fails. A tag that is not OUTSTANDING has no timer
(R115, R117). -/
def expireTag (t : Fin 8) (s : State) : State :=
  match s.tag t with
  | .outstanding id phase (some _) block => timeOutMop t id phase (s.withTag t (.quarantined phase block))
  | .outstanding _ _ none _ => s
  | .free => s
  | .quarantined _ _ => s

/-- The deadline of a tag's timer, where one runs (R115). -/
def Tag.deadline? : Tag → Option Nat
  | .outstanding _ _ d _ => d
  | .free => none
  | .quarantined _ _ => none

/-- The core clock reaches a moment, if it has not passed it. -/
def clockTo (now : Nat) (s : State) : State := { s with msp := { s.msp with clock := max s.msp.clock now } }

/-- The timer of a tag reaches its deadline: the clock stands there at least, and the timer expires (R117). -/
def reachDeadline (t : Fin 8) (s : State) : State :=
  match (s.tag t).deadline? with
  | none => s
  | some d => expireTag t (clockTo d s)

/-- EXPIRY (R117); a tag without a running timer has no such event and nothing changes. -/
def execExpiry (t : Fin 8) (s : State) : Host.Outcome State Fault Refusal := .next (unlessReset s (reachDeadline t))

/-- A tag's timer expires when the clock has reached its deadline. -/
def expireIfDue (t : Fin 8) (s : State) : State :=
  match (s.tag t).deadline? with
  | none => s
  | some d => if d ≤ s.msp.clock then expireTag t s else s

/-- One core clock period passes, and every timer that has reached its deadline expires, lowest tag first
(R115, R117; notes/assumptions/1.md). -/
def tick (s : State) : State :=
  (List.finRange 8).foldl (fun s t => expireIfDue t s) (clockTo (s.msp.clock + 1) s)

/-- What happens when no command waits: one core clock period, or nothing while RESET_N is low. -/
def idle (s : State) : State := unlessReset s tick

end Sys2Proof.Machine
end

