-- ==== Sys2Proof/Machine/ResetPin.lean ====
section
/-! DEFINITION. The RESET_N pin: RESET_N_LOW and RESET_N_RELEASE. -/

namespace Sys2Proof.Machine

/-- RESET_N goes low: every block takes its reset values, and what the outside holds (the presented access, the level
of SM_CS_N, the waiting commands) stays (R14, R37, R109, R124, R133, R146, R162). -/
def holdInReset (s : State) : State :=
  { State.reset with
    hsp := { HostSide.reset with request := s.hsp.request }
    csN := s.csN
    resetN := false
    pending := s.pending }

/-- RESET_N_LOW (R37). -/
def execResetNLow (s : State) : Host.Outcome State Fault Refusal := .next (holdInReset s)

/-- RESET_N is released: the device starts from the values it was held in (R134). -/
def releaseReset (s : State) : State := { s with resetN := true }

/-- RESET_N_RELEASE (R134). -/
def execResetNRelease (s : State) : Host.Outcome State Fault Refusal := .next (releaseReset s)

end Sys2Proof.Machine
end

