-- ==== Sys2Proof/Machine/Dispatch.lean ====
section
/-! DEFINITION. One arm for each command: a direct call of its meaning. -/

namespace Sys2Proof.Machine

/-- The effect of a command on everything but the queue of waiting commands. -/
def exec (i : Instr) (s : State) : Host.Outcome State Fault Refusal :=
  match i with
  | .requestHandshake r => Sys2Proof.Machine.execRequestHandshake r s
  | .entryAnswered => Sys2Proof.Machine.execEntryAnswered s
  | .issue => Sys2Proof.Machine.execIssue s
  | .memoryResponse t st data => Sys2Proof.Machine.execMemoryResponse t st data s
  | .expiry t => Sys2Proof.Machine.execExpiry t s
  | .getStatus => Sys2Proof.Machine.execGetStatus s
  | .configure timeout enables => Sys2Proof.Machine.execConfigure timeout enables s
  | .ackNotice mask => Sys2Proof.Machine.execAckNotice mask s
  | .setSurface p => Sys2Proof.Machine.execSetSurface p s
  | .dropSurface index => Sys2Proof.Machine.execDropSurface index s
  | .readSurface index => Sys2Proof.Machine.execReadSurface index s
  | .setWindow p => Sys2Proof.Machine.execSetWindow p s
  | .openWindow index => Sys2Proof.Machine.execOpenWindow index s
  | .closeWindow index => Sys2Proof.Machine.execCloseWindow index s
  | .resumeWindow index => Sys2Proof.Machine.execResumeWindow index s
  | .readWindow index => Sys2Proof.Machine.execReadWindow index s
  | .fence => Sys2Proof.Machine.execFence s
  | .popFault => Sys2Proof.Machine.execPopFault s
  | .linkRecover => Sys2Proof.Machine.execLinkRecover s
  | .clearAll => Sys2Proof.Machine.execClearAll s
  | .unknownCommand code => Sys2Proof.Machine.execUnknownCommand code s
  | .smCsNFall => Sys2Proof.Machine.execSmCsNFall s
  | .smCsNRise => Sys2Proof.Machine.execSmCsNRise s
  | .resetNLow => Sys2Proof.Machine.execResetNLow s
  | .resetNRelease => Sys2Proof.Machine.execResetNRelease s
  | .smSckRisingEdge di => Sys2Proof.Machine.execSmSckRisingEdge di s

end Sys2Proof.Machine
end

