-- ==== Sys2Proof/Safety.lean ====
section
/-! DEFINITION. What a sound state of the bridge is: the relations between its tables and queues that the spec says
hold at every moment. Claims about runs use these names. -/

namespace Sys2Proof.Safety

open Sys2Proof.Machine

/-! ### Capacities -/

/-- No queue, list or log holds more than its rule lets it, and the lost counter stays in range
(R89, R105, R129, R136). -/
def WithinCapacity (s : State) : Prop :=
  s.oq.mops.length ≤ Config.oqCapacity ∧ s.oq.fences.length ≤ Config.fenceCapacity
    ∧ s.hsp.entries.length ≤ Config.rqCapacity ∧ s.fu.log.length ≤ Config.logCapacity
    ∧ s.fu.lost ≤ Config.lostMax

/-- Every window counter stays within 0 to 65535 (R19). -/
def CountersInRange (s : State) : Prop :=
  ∀ i : Fin 16,
    (s.window i).counters.accepted ≤ Config.counterMax ∧ (s.window i).counters.refused ≤ Config.counterMax
      ∧ (s.window i).counters.cancelled ≤ Config.counterMax

/-- WINDOW_CLOSED is set exactly while the closed set is not empty, WINDOW_HALTED exactly while the halted set is not
empty (R141). -/
def FlagsMatchSets (s : State) : Prop :=
  (s.fu.notices.windowClosed = true ↔ s.fu.closedSet ≠ 0#16)
    ∧ (s.fu.notices.windowHalted = true ↔ s.fu.haltedSet ≠ 0#16)

/-! ### Surface table -/

/-- A DEFINED descriptor's fields lie in the ranges of Table 1-5 and pass the extent check (R4, R5). -/
def SurfaceSound (d : Surface) : Prop :=
  d.base.toNat % 64 = 0
    ∧ 4 ≤ d.pitch.toNat ∧ d.pitch.toNat ≤ 65532 ∧ d.pitch.toNat % 4 = 0
    ∧ 1 ≤ d.width.toNat ∧ d.width.toNat ≤ 4096 ∧ 1 ≤ d.height.toNat ∧ d.height.toNat ≤ 4096
    ∧ d.width.toNat * d.format.bpp ≤ d.pitch.toNat
    ∧ d.base.toNat + d.pitch.toNat * (d.height.toNat - 1) + d.width.toNat * d.format.bpp - 1 ≤ Config.addrMax

/-- Every DEFINED surface is sound (R4). -/
def SurfacesSound (s : State) : Prop := ∀ k : Fin 8, ∀ d ∈ s.surface k, SurfaceSound d

/-- The number of windows in LIVE, HALTED or CLOSING that name a surface (R7). -/
def holders (s : State) (k : Fin 8) : Nat :=
  (List.finRange 16).countP fun i => (s.window i).holds && (s.window i).staged.surface = k

/-- The reference count that a surface table entry shows: 0 for an EMPTY one (R4). -/
def refCountOf (d : Option Surface) : Nat := (d.map Surface.refCount).getD 0

/-- The reference count of a surface equals the number of windows that hold it (R7). -/
def RefCountsExact (s : State) : Prop := ∀ k : Fin 8, refCountOf (s.surface k) = holders s k

/-! ### Window table -/

/-- The staged fields lie in the ranges of Table 2-1 (R15, R22). -/
def StagedSound (w : Staged) : Prop :=
  w.hostBase.toNat % 4096 = 0
    ∧ w.originX.toNat ≤ 4095 ∧ w.originY.toNat ≤ 4095
    ∧ 1 ≤ w.width.toNat ∧ w.width.toNat ≤ 4096 ∧ 1 ≤ w.height.toNat ∧ w.height.toNat ≤ 4096
    ∧ ∀ c ∈ w.clip,
        c.left.toNat ≤ c.right.toNat ∧ c.right.toNat ≤ 4095 ∧ c.top.toNat ≤ c.bottom.toNat ∧ c.bottom.toNat ≤ 4095

/-- A window's fields are those of its state (R15, R17, R20, R29): all 0 but the generation in EMPTY, no derived fields
and no MOPs in STAGED, derived fields that passed the range check in LIVE, HALTED and CLOSING, and MOPs in flight in
CLOSING. -/
def WindowSound (w : Window) : Prop :=
  match w.state with
  | .empty => w = Window.emptied w.generation
  | .staged => StagedSound w.staged ∧ w.derived = Derived.zero ∧ w.inFlight = 0
  | .live => StagedSound w.staged ∧ rangeFits w.derived ∧ ∃ f : PixelFormat, w.derived = deriveFields w.staged f
  | .halted => StagedSound w.staged ∧ rangeFits w.derived ∧ ∃ f : PixelFormat, w.derived = deriveFields w.staged f
  | .closing =>
    StagedSound w.staged ∧ rangeFits w.derived ∧ (∃ f : PixelFormat, w.derived = deriveFields w.staged f)
      ∧ w.inFlight ≠ 0

/-- Every window is sound. -/
def WindowsSound (s : State) : Prop := ∀ i : Fin 16, WindowSound (s.window i)

/-- No two windows that are LIVE or HALTED have overlapping host ranges (R26). -/
def RangesDisjoint (s : State) : Prop :=
  ∀ i j : Fin 16, i ≠ j → (s.window i).matching → (s.window j).matching →
    ¬ rangesOverlap (s.window i).staged.hostBase.toNat (s.window i).derived.hostLimit
        (s.window j).staged.hostBase.toNat (s.window j).derived.hostLimit

/-- While clear-all is pending every window is EMPTY or CLOSING, and at least one is CLOSING (R35). -/
def ClearAllSound (s : State) : Prop :=
  s.wt.clearAllPending →
    (∀ i : Fin 16, (s.window i).state = .empty ∨ (s.window i).state = .closing)
      ∧ ∃ i : Fin 16, (s.window i).state = .closing

/-- The reference counts together with the clear-all relation that keeps them exact when a clear-all ends (R7, R13,
R35). -/
def TablesSound (s : State) : Prop := ClearAllSound s ∧ RefCountsExact s

/-! ### Order queue -/

/-- The order queue lists each MOP once, in creation order (R89). -/
def CreationOrder (s : State) : Prop :=
  s.oq.mops.Pairwise (fun older younger => older.id < younger.id) ∧ ∀ m ∈ s.oq.mops, m.id < s.oq.nextId

/-- A window's in-flight count equals the number of MOPs that carry its tag, and every MOP with a window tag names a
window in LIVE, HALTED or CLOSING and carries its current generation (R20). -/
def InFlightExact (s : State) : Prop :=
  (∀ i : Fin 16, (s.window i).inFlight = s.oq.mops.countP fun m => m.ofWindow i)
    ∧ ∀ m ∈ s.oq.mops, ∀ t ∈ m.window, (s.window t.index).holds ∧ (s.window t.index).generation = t.generation

/-- Creation order and in-flight counts together: what the removal of one MOP needs to count right (R20, R89). -/
def QueueSound (s : State) : Prop := CreationOrder s ∧ InFlightExact s

/-- A MOP is in a state of its kind, with content of that state (R91, Table 6-2). -/
def MopShape (m : Mop) : Prop :=
  match m.content, m.state with
  | .plain _, .pending => True
  | .plain _, .issued _ => True
  | .blend _ _ _, .pending => True
  | .blend _ _ _, .fetching _ => True
  | .blended _, .ready => True
  | .blended _, .issued _ => True
  | .read _ _, .pending => True
  | .read _ _, .issued _ => True
  | _, _ => False

/-- The phase of a MOP's outstanding command (R114). -/
def outstandingPhase (m : Mop) : Option Phase :=
  match m.content, m.state with
  | .plain _, .issued _ => some .write
  | .blend _ _ _, .fetching _ => some .fetch
  | .blended _, .issued _ => some .write
  | .read _ _, .issued _ => some .read
  | _, _ => none

/-- A tag is OUTSTANDING exactly while its bound MOP holds it (R113): each OUTSTANDING tag's MOP is in the queue with
that tag, that block and that phase, and each MOP with a tag is the one its tag is bound to. -/
def TagsBound (s : State) : Prop :=
  (∀ t : Fin 8, ∀ id phase deadline block, s.tag t = .outstanding id phase deadline block →
      ∃ m ∈ s.oq.mops, m.id = id ∧ m.tag = some t ∧ m.block = block ∧ outstandingPhase m = some phase)
    ∧ ∀ m ∈ s.oq.mops, ∀ t ∈ m.tag, ∃ phase deadline, s.tag t = .outstanding m.id phase deadline m.block

/-- Tags, MOP states and creation order together (R89, R91, R113). -/
def TagsSound (s : State) : Prop := CreationOrder s ∧ (∀ m ∈ s.oq.mops, MopShape m) ∧ TagsBound s

/-- A response queue entry's outstanding count is the number of READ MOPs linked to it, every link finds its entry, and
an entry with its error flag set holds the word 0 (R82, R86, R129). -/
def EntriesExact (s : State) : Prop :=
  s.hsp.entries.Pairwise (fun a b => a.id < b.id)
    ∧ (∀ e ∈ s.hsp.entries, e.id < s.hsp.nextId)
    ∧ (∀ e ∈ s.hsp.entries, e.outstanding = s.oq.mops.countP fun m => m.link = some e.id)
    ∧ (∀ m ∈ s.oq.mops, ∀ link ∈ m.link, ∃ e ∈ s.hsp.entries, e.id = link)
    ∧ ∀ e ∈ s.hsp.entries, e.error = true → e.word = 0#32

/-- Response queue entries together with the tags that deliver to them (R82, R113, R129). -/
def ReadsSound (s : State) : Prop := TagsSound s ∧ EntriesExact s

/-- What the ordering law leaves true of an older and a younger MOP (R93, R94): writes are issued in creation order,
nothing is issued for a MOP while an older overlapping one has an unissued write, and no write is issued while an
older overlapping READ is PENDING. -/
def OrderedPair (older younger : Mop) : Prop :=
  (older.isWrite = true → younger.isWrite = true → younger.isIssued = true → older.isIssued = true)
    ∧ (older.isWrite = true → older.overlaps younger = true → older.isIssued = false → younger.state = .pending)
    ∧ (older.isWrite = false → older.overlaps younger = true → older.state = .pending → younger.isWrite = true →
        younger.isIssued = false)

/-- The ordering law over the whole queue, with creation order (R89, R93, R94). -/
def OrderSound (s : State) : Prop := CreationOrder s ∧ s.oq.mops.Pairwise OrderedPair

/-- Every pending fence still has an older MOP in the queue, fences stand in placement order, and their numbers are the
youngest ones given out (R105, R106). -/
def FencesSound (s : State) : Prop :=
  s.oq.fences.Pairwise (fun a b => a.mark ≤ b.mark)
    ∧ (∀ f ∈ s.oq.fences, f.mark ≤ s.oq.nextId ∧ ∃ m ∈ s.oq.mops, m.id < f.mark)
    ∧ ∀ k : Nat, ∀ f ∈ s.oq.fences[k]?, f.number = s.oq.nextFence - BitVec.ofNat 8 (s.oq.fences.length - k)

/-- A write MOP's bytes: a byte mask with at least one byte, an aligned block, final data that is 0 outside the mask,
and a pixel list whose pixels are exactly the mask (R60, R67, R90, R110). -/
def MopBytesSound (m : Mop) : Prop :=
  m.mask ≠ 0#64 ∧ m.block.toNat % 64 = 0
    ∧ match m.content with
      | .plain d => ∀ k : Fin 64, m.mask.getLsbD k.val = false → d[k.val] = 0#8
      | .blended d => ∀ k : Fin 64, m.mask.getLsbD k.val = false → d[k.val] = 0#8
      | .blend pixels _ f =>
        ∀ k : Fin 64, m.mask.getLsbD k.val = true ↔ ∃ px ∈ pixels, px.1 ≤ k.val ∧ k.val < px.1 + f.bpp
      | .read _ _ => True

/-- Every MOP's bytes are sound. -/
def BytesSound (s : State) : Prop := ∀ m ∈ s.oq.mops, MopBytesSound m

/-! ### Management port and reset -/

/-- The frame receive state fits its phase, and outside a frame it is IDLE and empty (R148, R150, R162). -/
def FrameSound (s : State) : Prop :=
  (s.csN = true → s.mgp = Frame.idle)
    ∧ s.mgp.bitCount ≤ 7
    ∧ match s.mgp.phase with
      | .idle => s.mgp = Frame.idle
      | .command => s.mgp.code = none ∧ s.mgp.params = [] ∧ s.mgp.response = []
      | .parameters => (∃ c ∈ s.mgp.code, s.mgp.params.length < paramCount c) ∧ s.mgp.response = []
      | .response => s.mgp.response ≠ []
      | .trailing => s.mgp.response = []

/-- While RESET_N is low every block stands at its reset values (R14, R37, R109, R124, R133, R146, R162). -/
def HeldInReset (s : State) : Prop := s.resetN = false → s = holdInReset s

end Sys2Proof.Safety
end

