-- ==== Sys2Proof/WellFormed.lean ====
section
/-! DEFINITION. Which command terms stand for an event of the block. The operand types hold every other bound. -/

namespace Sys2Proof

/-- A command is well formed when it can be an event of the block: UNKNOWN_COMMAND carries a command byte that
Table 10-3 does not hold (R152). Out-of-range indices and fields are well formed, since the port takes them and
answers BAD_ARG (R154). -/
def Instr.wellFormed : Instr → Bool
  | .unknownCommand code => !knownCode code
  | .requestHandshake _ => true
  | .entryAnswered => true
  | .issue => true
  | .memoryResponse _ _ _ => true
  | .expiry _ => true
  | .getStatus => true
  | .configure _ _ => true
  | .ackNotice _ => true
  | .setSurface _ => true
  | .dropSurface _ => true
  | .readSurface _ => true
  | .setWindow _ => true
  | .openWindow _ => true
  | .closeWindow _ => true
  | .resumeWindow _ => true
  | .readWindow _ => true
  | .fence => true
  | .popFault => true
  | .linkRecover => true
  | .clearAll => true
  | .smCsNFall => true
  | .smCsNRise => true
  | .resetNLow => true
  | .resetNRelease => true
  | .smSckRisingEdge _ => true

end Sys2Proof
end

