-- ==== Sys2Proof/Certificates/Slice0/Obligations.lean ====
section
/-! DEFINITION. The statements for the provers, `Obligations.<Name>`, behind the words they share. Result codes and bit
positions are written out from the tables of Chapter 10. -/

namespace Sys2Proof.Claims

open Sys2Proof.Machine Sys2Proof.Safety

/-- The state `t` with the management command of this code answered: the frame is in RESPONSE with these response bytes,
the status first. That one command of the table stands for its whole frame up to the taking event, SM_CS_N low, is the
model's choice (notes/assumptions/2.md). -/
def answered (t : State) (code : Byte) (params response : List Byte) : State :=
  { t with
    csN := false
    mgp :=
      { phase := .response
        bitCount := 0
        shift := 0#8
        code := some code
        params := params
        response := response } }

/-- Commands carried out one after another. -/
def execAll : List Instr → State → Host.Outcome State Fault Refusal
  | [], s => .next s
  | c :: rest, s =>
    match exec c s with
    | .next t => execAll rest t
    | .fault f => .fault f
    | .refused r => .refused r

/-- The eight rising edges of SM_SCK that send one byte, most significant bit first (R147). -/
def wireByte (b : Byte) : List Instr := (List.range 8).map fun k => .smSckRisingEdge (b.getLsbD (7 - k))

/-- The byte that follows `shift` when its next bit is `di` (R147). -/
def nextShift (shift : Byte) (di : Bool) : Byte := (shift.setWidth 7 ++ BitVec.ofBool di : BitVec (7 + 1))

/-- The fields of SET_SURFACE lie in the ranges of R10; a format code is the bytes per pixel (R1). -/
def SurfaceFieldsValid (p : SurfaceParams) : Prop :=
  p.index.toNat ≤ 7 ∧ (p.format = 1#8 ∨ p.format = 2#8 ∨ p.format = 4#8)
    ∧ 64 ∣ p.base.toNat
    ∧ 4 ≤ p.pitch.toNat ∧ p.pitch.toNat ≤ 65532 ∧ 4 ∣ p.pitch.toNat ∧ p.width.toNat * p.format.toNat ≤ p.pitch.toNat
    ∧ 1 ≤ p.width.toNat ∧ p.width.toNat ≤ 4096 ∧ 1 ≤ p.height.toNat ∧ p.height.toNat ≤ 4096
    ∧ p.base.toNat + p.pitch.toNat * (p.height.toNat - 1) + p.width.toNat * p.format.toNat - 1 ≤ 0xFFFFFFFF

/-- The fields of SET_WINDOW lie in the ranges of R22. -/
def WindowFieldsValid (p : WindowParams) : Prop :=
  p.index.toNat ≤ 15 ∧ p.kind.toNat ≤ 3 ∧ p.options.toNat < 8 ∧ p.surface.toNat ≤ 7
    ∧ 4096 ∣ p.hostBase.toNat ∧ p.originX.toNat ≤ 4095 ∧ p.originY.toNat ≤ 4095
    ∧ 1 ≤ p.width.toNat ∧ p.width.toNat ≤ 4096 ∧ 1 ≤ p.height.toNat ∧ p.height.toNat ≤ 4096
    ∧ (p.options.getLsbD 0 = true →
        p.clipLeft.toNat ≤ p.clipRight.toNat ∧ p.clipRight.toNat ≤ 4095
          ∧ p.clipTop.toNat ≤ p.clipBottom.toNat ∧ p.clipBottom.toNat ≤ 4095)

/-- A window's row bytes by Table 2-2 (R17), from its kind, its width and the bytes per pixel of its surface. -/
def rowBytesOfTable (k : Kind) (width bpp : Nat) : Nat :=
  match k with
  | .direct => (width * bpp) ⌈/⌉ 4 * 4
  | .expand => width ⌈/⌉ 32 * 4
  | .coverage => width ⌈/⌉ 8 * 4
  | .matchKey => width ⌈/⌉ 32 * 4

/-- The window serves host accesses or refuses them: it is LIVE or HALTED (Table 2-4). -/
def Open (w : Window) : Prop := w.state = .live ∨ w.state = .halted

/-- The address lies in the host range of the window, and the window is LIVE or HALTED (R39). -/
def Covers (w : Window) (addr : Nat) : Prop :=
  Open w ∧ w.staged.hostBase.toNat ≤ addr ∧ addr ≤ w.derived.hostLimit

/-- The access matches this window and no other (R39). -/
def Matches (s : State) (i : Fin 16) (a : Access) : Prop :=
  Covers (s.window i) (a.addr.toNat * 4) ∧ ∀ j, j ≠ i → ¬ Covers (s.window j) (a.addr.toNat * 4)

/-- The access matches no window (R41, R42). -/
def MatchesNone (s : State) (a : Access) : Prop := ∀ i, ¬ Covers (s.window i) (a.addr.toNat * 4)

/-- The kind serves the direction of the access (R40): DIRECT both, EXPAND and COVERAGE writes, MATCH reads. -/
def Serves (k : Kind) (a : Access) : Prop :=
  k = .direct ∨ ((k = .expand ∨ k = .coverage) ∧ a.write = true) ∨ (k = .matchKey ∧ a.write = false)

/-- The admission conditions of Table 3-6 (R52), for the number of MOPs the access would create before any merge. -/
def Admitted (s : State) (a : Access) : Prop :=
  ((accessMops s a).length = 0 ∨ s.oq.mops.length + (accessMops s a).length ≤ 32)
    ∧ (a.write = false → s.hsp.entries.length < 8)

/-- The tail of the queue takes a merge with this PLAIN_WRITE (R53). A fence placed since the tail was created has a
place behind the tail (R105). -/
def TailTakes (oq : OrderQueue) (tail m : Mop) : Prop :=
  oq.mops.getLast? = some tail ∧ (∃ d, tail.content = .plain d) ∧ tail.state = .pending ∧ (∃ d, m.content = .plain d)
    ∧ tail.block = m.block ∧ tail.window = m.window ∧ ∀ f ∈ oq.fences, ¬ tail.id < f.mark

/-- A surface pixel by R43 to R46: `x` is the byte address of the pixel at position `m` of the group of the access, and
the pixel is not masked by position. -/
def PixelAddress (w : Window) (d : Surface) (a : Access) (m x : Nat) : Prop :=
  let offset := a.addr.toNat * 4 - w.staged.hostBase.toNat
  let p := offset % w.derived.rowBytes
  let i := firstColumn w.staged.kind d.format p + m
  let sx := w.staged.originX.toNat + i
  let sy := w.staged.originY.toNat + offset / w.derived.rowBytes
  i < w.staged.width.toNat ∧ sx < d.width.toNat ∧ sy < d.height.toNat
    ∧ (∀ c ∈ w.staged.clip,
        c.left.toNat ≤ sx ∧ sx ≤ c.right.toNat ∧ c.top.toNat ≤ sy ∧ sy ≤ c.bottom.toNat)
    ∧ x = d.base.toNat + sy * d.pitch.toNat + sx * d.format.bpp

/-- Byte `k` of a 32-bit value, least significant first (R2). -/
def leByte (v : Word) (k : Nat) : Byte := BitVec.ofNat 8 (v.toNat / 256 ^ k)

/-- The pixel value at an offset of a block, least significant byte first (R2). -/
def pixelValue (f : PixelFormat) (d : Block) (o : Nat) : Nat :=
  ((List.range f.bpp).map fun k => (blockByte d (o + k)).toNat * 256 ^ k).sum

/-- The fault log after a fault that halts no window (R136, R138). -/
def loggedFault (r : FaultRecord) (fu : FaultUnit) : FaultUnit :=
  if fu.log.length < 8 then { fu with log := fu.log ++ [{ r with halted := false }] }
  else { fu with lost := min 255 (fu.lost + 1) }

/-- The entries of the response queue after a MOP with this content has failed: the entry that a READ MOP links to
takes the error (R84), and a write MOP has none. -/
def entriesAfterFailure (content : MopContent) (entries : List Entry) : List Entry :=
  match content with
  | .read link _ =>
    entries.map fun e =>
      if e.id = link then { e with word := 0#32, error := true, outstanding := e.outstanding - 1 } else e
  | _ => entries

/-- The number of these MOPs that are READs for the entry with this serial number. -/
def readsFor (mops : List Mop) (id : Nat) : Nat :=
  mops.countP fun m =>
    match m.content with
    | .read link _ => link = id
    | _ => false

/-- The timer of a tag is due once one more core clock period has passed (R115). -/
def Due (s : State) (k : Fin 8) : Bool :=
  match s.tag k with
  | .outstanding _ _ (some deadline) _ => deadline ≤ s.msp.clock + 1
  | _ => false

/-- The state after the expiry of the timer of tag `k`, bound to the MOP `m` in this phase: the tag QUARANTINED with
its phase and block, the entry of a READ MOP failed, the MOP removed, TIMEOUT reported (R101, R117). That the
removal stands before the report is the model's order in the event (notes/assumptions/14.md). -/
def timedOut (k : Fin 8) (m : Mop) (p : Phase) (s : State) : State :=
  reportFault
    { kind := .timeout
      phase := some p
      window := m.window
      hostAddr := some m.hostAddr
      block := some m.block
      tag := some k
      halted := false
      status := none }
    (removeMop m ((s.withTag k (.quarantined p m.block)).withEntries (entriesAfterFailure m.content s.hsp.entries)))

/-- From `s` to `t` the fences complete whose older MOPs have all left the queue of `t`, together and oldest first:
they are the first ones of the list, the last completed number is that of the youngest of them, and FENCE_DONE is
set; with none complete the number and the flag stay (R106). -/
def FencesSettle (s t : State) : Prop :=
  ∃ completed waiting : List Fence,
    s.oq.fences = completed ++ waiting ∧ t.oq.fences = waiting
      ∧ (∀ f ∈ completed, ∀ x ∈ t.oq.mops, f.mark ≤ x.id)
      ∧ (∀ f ∈ waiting, ∃ x ∈ t.oq.mops, x.id < f.mark)
      ∧ t.oq.nextFence = s.oq.nextFence
      ∧ (completed = [] → t.oq.lastFence = s.oq.lastFence ∧ t.fu.notices.fenceDone = s.fu.notices.fenceDone)
      ∧ ∀ f, completed.getLast? = some f → t.oq.lastFence = some f.number ∧ t.fu.notices.fenceDone = true

/-- The access is served by this LIVE window (R39, R40) on this surface, whose fields lie in their ranges (R4). -/
def ServedOn (s : State) (i : Fin 16) (a : Access) (d : Surface) : Prop :=
  Matches s i a ∧ (s.window i).state = .live ∧ Serves (s.window i).staged.kind a
    ∧ s.surface (s.window i).staged.surface = some d ∧ SurfaceSound d

/-- A DIRECT write draws the byte `v` at the byte address `x`: an enabled host byte at its pixel's place (R44, R47,
R61). -/
def DrawnDirect (w : Window) (d : Surface) (a : Access) (x : Nat) (v : Byte) : Prop :=
  ∃ k p, k < 4 ∧ a.be.getLsbD k = true ∧ PixelAddress w d a (k / d.format.bpp) p ∧ x = p + k % d.format.bpp
    ∧ v = leByte a.wdata k

/-- An EXPAND write draws the byte `v` at the byte address `x`: a foreground or background byte of an enabled pixel, by
its pattern bit (R44, R47, R62, R63). -/
def DrawnExpand (w : Window) (d : Surface) (a : Access) (x : Nat) (v : Byte) : Prop :=
  ∃ m p k colour, m < 32 ∧ a.be.getLsbD (m / 8) = true ∧ PixelAddress w d a m p
    ∧ (if a.wdata.getLsbD m then colour = w.staged.foreground else w.staged.background = some colour)
    ∧ k < d.format.bpp ∧ x = p + k ∧ v = leByte colour k

/-- A COVERAGE write covers the pixel at the byte address `x` with the value `c`, which is not 0 (R44, R47, R65). -/
def Covered (w : Window) (d : Surface) (a : Access) (x c : Nat) : Prop :=
  ∃ m, m < 8 ∧ a.be.getLsbD (m / 2) = true ∧ PixelAddress w d a m x ∧ c = a.wdata.toNat / 16 ^ m % 16 ∧ c ≠ 0

/-- A DIRECT read takes result byte `k` from the byte address `x` (R44, R77). -/
def ReadDirect (w : Window) (d : Surface) (a : Access) (k x : Nat) : Prop :=
  k < 4 ∧ ∃ p, PixelAddress w d a (k / d.format.bpp) p ∧ x = p + k % d.format.bpp

/-- A MATCH read takes result bit `n` from the pixel at the byte address `x` (R44, R77). -/
def ReadMatch (w : Window) (d : Surface) (a : Access) (n x : Nat) : Prop := n < 32 ∧ PixelAddress w d a n x

/-- One of these MOPs is a PLAIN_WRITE whose data holds the byte `v` for the byte address `x`, inside its mask. -/
def CarriesByte (mops : List Mop) (x : Nat) (v : Byte) : Prop :=
  ∃ m ∈ mops, ∃ data : Block, m.content = .plain data
    ∧ ∃ k : Fin 64, m.mask.getLsbD k.val = true ∧ x = m.block.toNat + k.val ∧ v = data[k.val]

/-- The parts cut these items at block boundaries: blocks in ascending order, a part for every block that holds an item
and for no other, and no part without a byte (R49). -/
def CutAtBlocks {α : Type} (items : List (Nat × α)) (parts : List BlockPart) : Prop :=
  parts.Pairwise (fun p q => p.block < q.block) ∧ (∀ x ∈ items, ∃ p ∈ parts, p.block = x.1 / 64)
    ∧ ∀ p ∈ parts, p.mask ≠ 0#64 ∧ ∃ x ∈ items, p.block = x.1 / 64

/-- Addressed bytes in ascending order, no address twice. -/
def BytesAscend {α : Type} (items : List (Nat × α)) : Prop := items.Pairwise fun x y => x.1 < y.1

/-- Addressed pixels in ascending order, none overlapping the next. -/
def PixelsAscend {α : Type} (f : PixelFormat) (items : List (Nat × α)) : Prop :=
  items.Pairwise fun x y => x.1 + f.bpp ≤ y.1

/-- No pixel crosses a block boundary (R60). -/
def PixelsInBlocks {α : Type} (f : PixelFormat) (items : List (Nat × α)) : Prop := ∀ x ∈ items, x.1 % 64 + f.bpp ≤ 64

/-- The items of one block. -/
def itemsIn {α : Type} (block : Nat) (items : List (Nat × α)) : List (Nat × α) :=
  items.filter fun x => x.1 / 64 = block

/-- The channels of a format as (lowest bit position, width), high to low (R1, Table 1-4). -/
def channelsOfTable (f : PixelFormat) : List (Nat × Nat) :=
  match f with
  | .p8 => [(5, 3), (2, 3), (0, 2)]
  | .p16 => [(11, 5), (5, 6), (0, 5)]
  | .p32 => [(24, 8), (16, 8), (8, 8), (0, 8)]

/-- The state outside the frame receive state and SM_CS_N is that of `s`. -/
def SameOutsideFrame (s t : State) : Prop := { t with mgp := s.mgp, csN := s.csN } = s

end Sys2Proof.Claims

section

open Sys2Proof Sys2Proof.Machine Sys2Proof.Safety Sys2Proof.Claims

/-! ### The queue of commands and the clock -/

/-- One step takes the command at the front of the queue and carries it out with the rest of the queue waiting. -/
def Obligations.StepRunsFrontCommand : Prop :=
  ∀ (c : Instr) (s : State), step { s with pending := c :: s.pending } = exec c s

/-- With no command waiting one core clock period passes, and exactly the timers that have reached their deadlines
expire, lowest tag first, each as EXPIRY of its tag: its tag is QUARANTINED, its MOP fails with TIMEOUT, and
nothing else changes but the clock (R115, R117); while RESET_N is low nothing happens. That an idle step is a core
clock period and the order of the expiries are the model's choice (notes/assumptions/1.md), and so is the removal
before the report in each (notes/assumptions/14.md). -/
def Obligations.IdleStepExpiresDueTimers : Prop :=
  ∀ s u : State, s.pending = [] → u = { s with msp := { s.msp with clock := s.msp.clock + 1 } } →
    (s.resetN = false → step s = .next s)
      ∧ (s.resetN = true →
          (∃ t, step s = .next t ∧ t.msp.clock = s.msp.clock + 1
            ∧ ∀ k : Fin 8,
                t.tag k
                  = match s.tag k with
                    | .outstanding id p (some d) block =>
                      if d ≤ s.msp.clock + 1 then .quarantined p block else .outstanding id p (some d) block
                    | x => x)
            ∧ ((∀ k : Fin 8, ∀ id p d block, s.tag k = .outstanding id p (some d) block → s.msp.clock + 1 < d) →
                step s = .next u)
            ∧ step s = execAll (((List.finRange 8).filter (Due s)).map .expiry) u
            ∧ (TagsSound s → ∀ due : List (Fin 8 × Mop × Phase), due.Pairwise (fun x y => x.1 < y.1) →
                (∀ k m p, (k, m, p) ∈ due ↔
                  m ∈ s.oq.mops ∧ ∃ d, s.tag k = .outstanding m.id p (some d) m.block ∧ d ≤ s.msp.clock + 1) →
                step s = .next (due.foldl (fun v x => timedOut x.1 x.2.1 x.2.2 v) u)))

/-! ### Frames -/

/-- The command read from the frame of a well-formed management command is that command, with every operand at every
value (R152, R153, R157, R158). -/
def Obligations.FrameDecodeInvertsEncode : Prop :=
  ∀ (i : Instr) (code : Byte) (params : List Byte),
    i.wellFormed = true → encodeFrame i = some (code, params) → decodeFrame code params = i

/-- Sending the frame of a management command over the serial link, SM_CS_N falling first and each byte bit by bit,
ends in the state that the command's row gives (R147, R148, R149). That the row stands for the whole frame is the
model's choice (notes/assumptions/2.md). -/
def Obligations.SerialFrameEqualsCommandRow : Prop :=
  ∀ (i : Instr) (code : Byte) (params : List Byte) (s : State),
    i.wellFormed = true → encodeFrame i = some (code, params) → s.resetN = true → s.csN = true →
    execAll (.smCsNFall :: (code :: params).flatMap wireByte) s = exec i s

/-- In RESPONSE the port sends each response byte most significant bit first, whatever SM_DI carries, and after its
eighth edge the next byte follows, or TRAILING after the last; in TRAILING it sends 00h bytes for ever (R147,
R148, R151). That `smDo` is the level at the next rising edge of SM_SCK, the falling edge between having no row,
is the model's reading (notes/assumptions/8.md); that a sent byte leaves `response` and the code and parameters
stay is its choice (notes/assumptions/18.md). -/
def Obligations.ResponseBytesShiftOut : Prop :=
  ∀ (s : State) (dis : List Bool), s.resetN = true → s.csN = false → s.mgp.bitCount = 0 → dis.length = 8 →
    (∀ b rest, s.mgp.phase = .response → s.mgp.response = b :: rest →
      (∀ k ≤ 7, ∃ t,
          execAll ((dis.take k).map fun di => .smSckRisingEdge di) s = .next t ∧ smDo t = some (b.getLsbD (7 - k)))
        ∧ execAll (dis.map fun di => .smSckRisingEdge di) s
            = .next
                { s with
                  mgp :=
                    { s.mgp with
                      response := rest
                      phase := if rest = [] then .trailing else .response } })
      ∧ (s.mgp.phase = .trailing →
          (∀ k ≤ 7, ∃ t,
              execAll ((dis.take k).map fun di => .smSckRisingEdge di) s = .next t ∧ smDo t = some false)
            ∧ execAll (dis.map fun di => .smSckRisingEdge di) s = .next s)

/-- The result bytes of READ_SURFACE and READ_WINDOW, sent back as the parameters of SET_SURFACE and SET_WINDOW, pass
the checks and give the same fields (R157, R159). -/
def Obligations.ReadBackRestoresDescriptors : Prop :=
  (∀ (k : Fin 8) (d : Surface), SurfaceSound d →
    checkSurface (surfaceParamsOf (BitVec.ofNat 8 k.val :: ((surfaceBytes (some d)).drop 1).take 11))
      = some (k, { d with refCount := 0 }))
    ∧ ∀ (i : Fin 16) (w : Window), StagedSound w.staged →
        checkWindow (windowParamsOf (BitVec.ofNat 8 i.val :: ((windowBytes w).drop 2).take 39)) = some (i, w.staged)

/-! ### Commands on the device as a whole -/

/-- GET_STATUS answers OK with the 17 bytes of Table 10-5 as they stand, and changes nothing outside the frame (R155).
The frame that `answered` describes is the model's choice (notes/assumptions/2.md). -/
def Obligations.GetStatusReportsEveryBlock : Prop :=
  ∀ s : State, s.resetN = true →
    exec .getStatus s
      = .next
          (answered s 0x10#8 []
            ([ 0x00#8,
              BitVec.ofNat 8 s.oq.mops.length,
              BitVec.ofNat 8 s.hsp.entries.length,
              BitVec.ofNat 8 (s.msp.tags.toList.countP Tag.isOutstanding),
              BitVec.ofNat 8 (s.msp.tags.toList.countP Tag.isQuarantined),
              BitVec.ofNat 8 s.fu.log.length,
              BitVec.ofNat 8 s.fu.lost,
              BitVec.ofNat 8 s.oq.fences.length,
              s.oq.nextFence,
              s.oq.lastFence.getD 0#8,
              (0#6 ++ BitVec.ofBool s.wt.clearAllPending ++ BitVec.ofBool s.oq.lastFence.isSome : BitVec (6 + 1 + 1)),
              (0#3 ++ BitVec.ofBool s.fu.notices.clearDone ++ BitVec.ofBool s.fu.notices.windowHalted
                ++ BitVec.ofBool s.fu.notices.windowClosed ++ BitVec.ofBool s.fu.notices.fenceDone ++ 0#1
                : BitVec (3 + 1 + 1 + 1 + 1 + 1)),
              s.fu.closedSet.extractLsb' 8 8,
              s.fu.closedSet.extractLsb' 0 8,
              s.fu.haltedSet.extractLsb' 8 8,
              s.fu.haltedSet.extractLsb' 0 8,
              (0#3 ++ BitVec.ofBool s.fu.enables.clearDone ++ BitVec.ofBool s.fu.enables.windowHalted
                ++ BitVec.ofBool s.fu.enables.windowClosed ++ BitVec.ofBool s.fu.enables.fenceDone
                ++ BitVec.ofBool s.fu.enables.fault : BitVec (3 + 1 + 1 + 1 + 1 + 1)),
              s.msp.timeout ]))

/-- CONFIGURE answers OK and sets the timeout setting and the five attention enables; a running timer keeps its
deadline, and nothing else outside the frame changes (R116, R144, R156). The frame that `answered` describes is
the model's choice (notes/assumptions/2.md). -/
def Obligations.ConfigureSetsTimeoutAndEnables : Prop :=
  ∀ (timeout enables : Byte) (s : State), s.resetN = true →
    exec (.configure timeout enables) s
      = .next
          (answered
            { s with
              msp := { s.msp with timeout := timeout }
              fu :=
                { s.fu with
                  enables :=
                    { fault := enables.getLsbD 0
                      fenceDone := enables.getLsbD 1
                      windowClosed := enables.getLsbD 2
                      windowHalted := enables.getLsbD 3
                      clearDone := enables.getLsbD 4 } } }
            0x11#8 [timeout, enables] [0x00#8])

/-- ACK_NOTICE answers OK, clears the flags, sets and counter that its mask names, and touches nothing else (R142).
The acknowledge bits stand at bits 0 (LOST) to 4 (CLEAR_DONE) of the mask byte (Chapter 10). -/
def Obligations.AckNoticeClearsMaskedNotices : Prop :=
  ∀ (mask : Byte) (s : State), s.resetN = true →
    ∃ t, exec (.ackNotice mask) s = .next t
      ∧ t.mgp.response = [0x00#8]
      ∧ t.fu.notices.fenceDone = (if mask.getLsbD 1 then false else s.fu.notices.fenceDone)
      ∧ t.fu.notices.windowClosed = (if mask.getLsbD 2 then false else s.fu.notices.windowClosed)
      ∧ t.fu.notices.windowHalted = (if mask.getLsbD 3 then false else s.fu.notices.windowHalted)
      ∧ t.fu.notices.clearDone = (if mask.getLsbD 4 then false else s.fu.notices.clearDone)
      ∧ t.fu.closedSet = (if mask.getLsbD 2 then 0#16 else s.fu.closedSet)
      ∧ t.fu.haltedSet = (if mask.getLsbD 3 then 0#16 else s.fu.haltedSet)
      ∧ t.fu.lost = (if mask.getLsbD 0 then 0 else s.fu.lost)
      ∧ t.fu.log = s.fu.log ∧ t.fu.enables = s.fu.enables
      ∧ SameOutsideFrame s { t with fu := s.fu }

/-! ### Surface commands -/

/-- SET_SURFACE by its checks in order: BUSY, BAD_ARG, PINNED, each changing nothing outside the frame, or OK with the
indexed surface DEFINED by the carried fields with count 0 (R9, R10, R13). The frame that `answered` describes is
the model's choice (notes/assumptions/2.md). -/
def Obligations.SetSurfaceDefinesOrRefuses : Prop :=
  ∀ (p : SurfaceParams) (s : State), s.resetN = true →
    (s.wt.clearAllPending = true →
      exec (.setSurface p) s = .next (answered s 0x20#8 (surfaceParamBytes p) [0x01#8]))
      ∧ (s.wt.clearAllPending = false → ¬ SurfaceFieldsValid p →
          exec (.setSurface p) s = .next (answered s 0x20#8 (surfaceParamBytes p) [0x02#8]))
      ∧ (s.wt.clearAllPending = false → SurfaceFieldsValid p → ∀ k : Fin 8, k.val = p.index.toNat →
          (1 ≤ refCountOf (s.surface k) →
            exec (.setSurface p) s = .next (answered s 0x20#8 (surfaceParamBytes p) [0x07#8]))
            ∧ (refCountOf (s.surface k) = 0 → ∀ f : PixelFormat, f.bpp = p.format.toNat →
                exec (.setSurface p) s
                  = .next
                      (answered
                        (s.withSurface k
                          (some
                            { format := f
                              base := p.base
                              pitch := p.pitch
                              width := p.width
                              height := p.height
                              refCount := 0 }))
                        0x20#8 (surfaceParamBytes p) [0x00#8])))

/-- DROP_SURFACE by its checks in order, or OK with the indexed surface EMPTY; READ_SURFACE answers in every state
with the descriptor as it stands (R11, R12, R157). The frame that `answered` describes is the model's choice
(notes/assumptions/2.md). -/
def Obligations.DropAndReadSurfaceAnswer : Prop :=
  ∀ (index : Byte) (s : State), s.resetN = true →
    (s.wt.clearAllPending = true →
      exec (.dropSurface index) s = .next (answered s 0x21#8 [index] [0x01#8]))
      ∧ (s.wt.clearAllPending = false → 7 < index.toNat →
          exec (.dropSurface index) s = .next (answered s 0x21#8 [index] [0x02#8]))
      ∧ (∀ k : Fin 8, k.val = index.toNat → s.wt.clearAllPending = false →
          (s.surface k = none → exec (.dropSurface index) s = .next (answered s 0x21#8 [index] [0x03#8]))
            ∧ (∀ d, s.surface k = some d → 1 ≤ d.refCount →
                exec (.dropSurface index) s = .next (answered s 0x21#8 [index] [0x07#8]))
            ∧ (∀ d, s.surface k = some d → d.refCount = 0 →
                exec (.dropSurface index) s = .next (answered (s.withSurface k none) 0x21#8 [index] [0x00#8])))
      ∧ (7 < index.toNat →
          exec (.readSurface index) s = .next (answered s 0x22#8 [index] (0x02#8 :: List.replicate 13 0x00#8)))
      ∧ ∀ k : Fin 8, k.val = index.toNat →
          (s.surface k = none →
            exec (.readSurface index) s = .next (answered s 0x22#8 [index] (0x00#8 :: List.replicate 13 0x00#8)))
            ∧ ∀ d, s.surface k = some d →
                exec (.readSurface index) s
                  = .next
                      (answered s 0x22#8 [index]
                        [ 0x00#8, 0x01#8, BitVec.ofNat 8 d.format.bpp,
                          d.base.extractLsb' 24 8, d.base.extractLsb' 16 8, d.base.extractLsb' 8 8,
                          d.base.extractLsb' 0 8, d.pitch.extractLsb' 8 8, d.pitch.extractLsb' 0 8,
                          d.width.extractLsb' 8 8, d.width.extractLsb' 0 8, d.height.extractLsb' 8 8,
                          d.height.extractLsb' 0 8, BitVec.ofNat 8 d.refCount ])

/-! ### Window commands -/

/-- SET_WINDOW by its checks in order: BUSY, BAD_ARG, BAD_STATE, each changing nothing outside the frame, or OK with
the indexed window STAGED and its staged fields the carried ones (R16, R21, R22, R158). The frame that `answered`
describes is the model's choice (notes/assumptions/2.md). -/
def Obligations.SetWindowStagesOrRefuses : Prop :=
  ∀ (p : WindowParams) (s : State), s.resetN = true →
    (s.wt.clearAllPending = true →
      exec (.setWindow p) s = .next (answered s 0x30#8 (windowParamBytes p) [0x01#8]))
      ∧ (s.wt.clearAllPending = false → ¬ WindowFieldsValid p →
          exec (.setWindow p) s = .next (answered s 0x30#8 (windowParamBytes p) [0x02#8]))
      ∧ (s.wt.clearAllPending = false → WindowFieldsValid p → ∀ i : Fin 16, i.val = p.index.toNat →
          ((s.window i).state = .live ∨ (s.window i).state = .halted ∨ (s.window i).state = .closing →
            exec (.setWindow p) s = .next (answered s 0x30#8 (windowParamBytes p) [0x03#8]))
            ∧ ((s.window i).state = .empty ∨ (s.window i).state = .staged →
                ∀ (k : Kind) (sf : Fin 8), k.code = p.kind → sf.val = p.surface.toNat →
                exec (.setWindow p) s
                  = .next
                      (answered
                        (s.withWindow i
                          { s.window i with
                            state := .staged
                            staged :=
                              { kind := k
                                surface := sf
                                hostBase := p.hostBase
                                originX := p.originX
                                originY := p.originY
                                width := p.width
                                height := p.height
                                clip :=
                                  if p.options.getLsbD 0 then
                                    some
                                      { left := p.clipLeft
                                        top := p.clipTop
                                        right := p.clipRight
                                        bottom := p.clipBottom }
                                  else none
                                foreground := p.foreground
                                background := if p.options.getLsbD 1 then some p.background else none
                                key := p.key
                                keyMask := p.keyMask
                                stopOnFault := p.options.getLsbD 2 } })
                        0x30#8 (windowParamBytes p) [0x00#8])))

/-- OPEN_WINDOW by its checks in order: BUSY, BAD_ARG, BAD_STATE, NO_SURFACE, RANGE, OVERLAP, each changing nothing
outside the frame, or OK with the window LIVE, its range stored, its generation one higher, its counters 0 and its
surface's count one higher (R17, R18, R23 to R26). The frame that `answered` describes is the model's choice
(notes/assumptions/2.md). -/
def Obligations.OpenWindowOpensOrRefuses : Prop :=
  ∀ (index : Byte) (s : State), s.resetN = true →
    (s.wt.clearAllPending = true → exec (.openWindow index) s = .next (answered s 0x31#8 [index] [0x01#8]))
      ∧ (s.wt.clearAllPending = false → 15 < index.toNat →
          exec (.openWindow index) s = .next (answered s 0x31#8 [index] [0x02#8]))
      ∧ (s.wt.clearAllPending = false → ∀ i : Fin 16, i.val = index.toNat →
          ((s.window i).state ≠ .staged → exec (.openWindow index) s = .next (answered s 0x31#8 [index] [0x03#8]))
            ∧ ((s.window i).state = .staged →
                (s.surface (s.window i).staged.surface = none →
                  exec (.openWindow index) s = .next (answered s 0x31#8 [index] [0x04#8]))
                  ∧ ∀ (d : Surface) (base row span limit : Nat), s.surface (s.window i).staged.surface = some d →
                      base = (s.window i).staged.hostBase.toNat →
                      row = rowBytesOfTable (s.window i).staged.kind (s.window i).staged.width.toNat d.format.bpp →
                      span = row * (s.window i).staged.height.toNat → limit = base + span - 1 →
                      (16777216 < span ∨ 0xFFFFFFFF < limit →
                        exec (.openWindow index) s = .next (answered s 0x31#8 [index] [0x05#8]))
                        ∧ (span ≤ 16777216 → limit ≤ 0xFFFFFFFF →
                            ((∃ j, j ≠ i ∧ Open (s.window j) ∧ base ≤ (s.window j).derived.hostLimit
                                ∧ (s.window j).staged.hostBase.toNat ≤ limit) →
                              exec (.openWindow index) s = .next (answered s 0x31#8 [index] [0x06#8]))
                              ∧ ((∀ j, j ≠ i → Open (s.window j) →
                                    ¬ (base ≤ (s.window j).derived.hostLimit
                                        ∧ (s.window j).staged.hostBase.toNat ≤ limit)) →
                                  exec (.openWindow index) s
                                    = .next
                                        (answered
                                          ((s.withWindow i
                                            { s.window i with
                                              state := .live
                                              generation := (s.window i).generation + 1#8
                                              derived := { rowBytes := row, span := span, hostLimit := limit }
                                              counters := { accepted := 0, refused := 0, cancelled := 0 } }).withSurface
                                                (s.window i).staged.surface
                                                (some { d with refCount := d.refCount + 1 }))
                                          0x31#8 [index] [0x00#8])))))

/-- CLOSE_WINDOW by its checks in order: BUSY, BAD_ARG, BAD_STATE, or OK with the window CLOSING while it has MOPs in
flight, and otherwise STAGED with its surface released and WINDOW_CLOSED set (R28). The frame that `answered`
describes is the model's choice (notes/assumptions/2.md). -/
def Obligations.CloseWindowClosesOrRefuses : Prop :=
  ∀ (index : Byte) (s : State), s.resetN = true →
    (s.wt.clearAllPending = true → exec (.closeWindow index) s = .next (answered s 0x32#8 [index] [0x01#8]))
      ∧ (s.wt.clearAllPending = false → 15 < index.toNat →
          exec (.closeWindow index) s = .next (answered s 0x32#8 [index] [0x02#8]))
      ∧ (s.wt.clearAllPending = false → ∀ i : Fin 16, i.val = index.toNat →
          (¬ Open (s.window i) → exec (.closeWindow index) s = .next (answered s 0x32#8 [index] [0x03#8]))
            ∧ (Open (s.window i) → (s.window i).inFlight ≠ 0 →
                exec (.closeWindow index) s
                  = .next
                      (answered (s.withWindow i { s.window i with state := .closing }) 0x32#8 [index] [0x00#8]))
            ∧ (Open (s.window i) → (s.window i).inFlight = 0 →
                exec (.closeWindow index) s
                  = .next
                      (answered
                        { (s.withWindow i
                            { s.window i with
                              state := .staged
                              derived := { rowBytes := 0, span := 0, hostLimit := 0 } }).withSurface
                            (s.window i).staged.surface
                            ((s.surface (s.window i).staged.surface).map fun d =>
                              { d with refCount := d.refCount - 1 }) with
                          fu :=
                            { s.fu with
                              notices := { s.fu.notices with windowClosed := true }
                              closedSet := s.fu.closedSet ||| BitVec.twoPow 16 i.val } }
                        0x32#8 [index] [0x00#8])))

/-- RESUME_WINDOW by its checks in order: BUSY, BAD_ARG, BAD_STATE, or OK with the window LIVE and nothing else
changed (R32). The frame that `answered` describes is the model's choice (notes/assumptions/2.md). -/
def Obligations.ResumeWindowRevivesOrRefuses : Prop :=
  ∀ (index : Byte) (s : State), s.resetN = true →
    (s.wt.clearAllPending = true → exec (.resumeWindow index) s = .next (answered s 0x33#8 [index] [0x01#8]))
      ∧ (s.wt.clearAllPending = false → 15 < index.toNat →
          exec (.resumeWindow index) s = .next (answered s 0x33#8 [index] [0x02#8]))
      ∧ (s.wt.clearAllPending = false → ∀ i : Fin 16, i.val = index.toNat →
          ((s.window i).state ≠ .halted → exec (.resumeWindow index) s = .next (answered s 0x33#8 [index] [0x03#8]))
            ∧ ((s.window i).state = .halted →
                exec (.resumeWindow index) s
                  = .next (answered (s.withWindow i { s.window i with state := .live }) 0x33#8 [index] [0x00#8])))

/-- READ_WINDOW refuses an index above 15 and otherwise answers OK with the 54 bytes of Table 10-10 as they stand: a
state code, the generation, the staged fields in the order of SET_WINDOW, the derived fields, the counters and the
in-flight count (R33, R159). The frame that `answered` describes is the model's choice (notes/assumptions/2.md). -/
def Obligations.ReadWindowReportsDescriptor : Prop :=
  ∀ (index : Byte) (s : State), s.resetN = true →
    (15 < index.toNat →
      exec (.readWindow index) s = .next (answered s 0x34#8 [index] (0x02#8 :: List.replicate 54 0x00#8)))
      ∧ ∀ i : Fin 16, i.val = index.toNat →
          ∃ result : List Byte,
            exec (.readWindow index) s = .next (answered s 0x34#8 [index] (0x00#8 :: result))
              ∧ result.length = 54
              ∧ result.take 2
                  = [ (match (s.window i).state with
                        | .empty => 0x00#8
                        | .staged => 0x01#8
                        | .live => 0x02#8
                        | .halted => 0x03#8
                        | .closing => 0x04#8),
                      (s.window i).generation ]
              ∧ (result.drop 2).take 3
                  = [ (match (s.window i).staged.kind with
                        | .direct => 0x00#8
                        | .expand => 0x01#8
                        | .coverage => 0x02#8
                        | .matchKey => 0x03#8),
                      (0#5 ++ BitVec.ofBool (s.window i).staged.stopOnFault
                        ++ BitVec.ofBool (s.window i).staged.background.isSome
                        ++ BitVec.ofBool (s.window i).staged.clip.isSome : BitVec (5 + 1 + 1 + 1)),
                      BitVec.ofNat 8 (s.window i).staged.surface.val ]
              ∧ field32 result 5 = (s.window i).staged.hostBase
              ∧ field16 result 9 = (s.window i).staged.originX ∧ field16 result 11 = (s.window i).staged.originY
              ∧ field16 result 13 = (s.window i).staged.width ∧ field16 result 15 = (s.window i).staged.height
              ∧ field16 result 17 = ((s.window i).staged.clip.map Clip.left).getD 0#16
              ∧ field16 result 19 = ((s.window i).staged.clip.map Clip.top).getD 0#16
              ∧ field16 result 21 = ((s.window i).staged.clip.map Clip.right).getD 0#16
              ∧ field16 result 23 = ((s.window i).staged.clip.map Clip.bottom).getD 0#16
              ∧ field32 result 25 = (s.window i).staged.foreground
              ∧ field32 result 29 = (s.window i).staged.background.getD 0#32
              ∧ field32 result 33 = (s.window i).staged.key ∧ field32 result 37 = (s.window i).staged.keyMask
              ∧ field16 result 41 = BitVec.ofNat 16 (s.window i).derived.rowBytes
              ∧ field32 result 43 = BitVec.ofNat 32 (s.window i).derived.span
              ∧ field16 result 47 = BitVec.ofNat 16 (s.window i).counters.accepted
              ∧ field16 result 49 = BitVec.ofNat 16 (s.window i).counters.refused
              ∧ field16 result 51 = BitVec.ofNat 16 (s.window i).counters.cancelled
              ∧ byteAt result 53 = BitVec.ofNat 8 (s.window i).inFlight

/-! ### Fences, faults, tags and clear-all -/

/-- FENCE answers FULL with four fences pending. Otherwise it answers OK with the next fence number, which rises by 1;
on an empty queue the fence completes at once, and else a marker stands behind every MOP in the queue (R105, R106,
R161). The marker's place as a serial number is the model's (notes/assumptions/5.md). The frame that `answered`
describes is the model's choice (notes/assumptions/2.md). -/
def Obligations.FencePlacesCompletesOrRefuses : Prop :=
  ∀ s : State, s.resetN = true →
    (4 ≤ s.oq.fences.length → exec .fence s = .next (answered s 0x40#8 [] [0x08#8, 0x00#8]))
      ∧ (s.oq.fences.length < 4 → s.oq.mops = [] →
          exec .fence s
            = .next
                (answered
                  { s with
                    oq :=
                      { s.oq with
                        nextFence := s.oq.nextFence + 1#8
                        lastFence := some s.oq.nextFence }
                    fu := { s.fu with notices := { s.fu.notices with fenceDone := true } } }
                  0x40#8 [] [0x00#8, s.oq.nextFence]))
      ∧ (s.oq.fences.length < 4 → s.oq.mops ≠ [] →
          exec .fence s
            = .next
                (answered
                  { s with
                    oq :=
                      { s.oq with
                        nextFence := s.oq.nextFence + 1#8
                        fences := s.oq.fences ++ [{ number := s.oq.nextFence, mark := s.oq.nextId }] } }
                  0x40#8 [] [0x00#8, s.oq.nextFence]))

/-- POP_FAULT answers OK. An empty log gives fifteen bytes 00h and the lost counter; otherwise the oldest record
leaves the log and its fields come in the order of Table 10-11 with their present flags, an absent field 0 (R137,
R160). The frame that `answered` describes is the model's choice (notes/assumptions/2.md). -/
def Obligations.PopFaultReturnsOldestRecord : Prop :=
  ∀ s : State, s.resetN = true →
    (s.fu.log = [] →
      exec .popFault s
        = .next (answered s 0x50#8 [] (0x00#8 :: List.replicate 15 0x00#8 ++ [BitVec.ofNat 8 s.fu.lost])))
      ∧ ∀ r rest, s.fu.log = r :: rest →
          exec .popFault s
            = .next
                (answered { s with fu := { s.fu with log := rest } } 0x50#8 []
                  [ 0x00#8,
                    (match r.kind with
                      | .fetchError => 0x01#8
                      | .readError => 0x02#8
                      | .writeError => 0x03#8
                      | .timeout => 0x04#8
                      | .lateResponse => 0x05#8
                      | .unknownTag => 0x06#8
                      | .wrongDirection => 0x07#8),
                    (0#1 ++ BitVec.ofBool r.halted ++ BitVec.ofBool r.status.isSome ++ BitVec.ofBool r.tag.isSome
                      ++ BitVec.ofBool r.block.isSome ++ BitVec.ofBool r.hostAddr.isSome
                      ++ BitVec.ofBool r.window.isSome ++ BitVec.ofBool r.phase.isSome
                      : BitVec (1 + 1 + 1 + 1 + 1 + 1 + 1 + 1)),
                    (match r.phase with
                      | none => 0x00#8
                      | some .fetch => 0x01#8
                      | some .read => 0x02#8
                      | some .write => 0x03#8),
                    (match r.window with
                      | none => 0x00#8
                      | some t => BitVec.ofNat 8 t.index.val),
                    (match r.window with
                      | none => 0x00#8
                      | some t => t.generation),
                    (r.hostAddr.getD 0#32).extractLsb' 24 8, (r.hostAddr.getD 0#32).extractLsb' 16 8,
                    (r.hostAddr.getD 0#32).extractLsb' 8 8, (r.hostAddr.getD 0#32).extractLsb' 0 8,
                    (r.block.getD 0#32).extractLsb' 24 8, (r.block.getD 0#32).extractLsb' 16 8,
                    (r.block.getD 0#32).extractLsb' 8 8, (r.block.getD 0#32).extractLsb' 0 8,
                    (match r.tag with
                      | none => 0x00#8
                      | some t => BitVec.ofNat 8 t.val),
                    (match r.status with
                      | none => 0x00#8
                      | some .ok => 0x00#8
                      | some .err => 0x01#8),
                    BitVec.ofNat 8 s.fu.lost ])

/-- LINK_RECOVER answers OK with the number of QUARANTINED tags, every one of which becomes FREE; every other tag and
everything outside the tags and the frame stays (R122, R161). The frame that `answered` describes is the model's
choice (notes/assumptions/2.md). -/
def Obligations.LinkRecoverFreesQuarantinedTags : Prop :=
  ∀ s : State, s.resetN = true →
    ∃ t,
      exec .linkRecover s
          = .next
              (answered t 0x60#8 [] [0x00#8, BitVec.ofNat 8 (s.msp.tags.toList.countP Tag.isQuarantined)])
        ∧ (∀ k : Fin 8,
            t.tag k
              = match s.tag k with
                | .quarantined _ _ => .free
                | x => x)
        ∧ { t with msp := { t.msp with tags := s.msp.tags } } = s

/-- CLEAR_ALL answers BUSY while one is pending. Otherwise it answers OK and acts on each window by the table of R34;
with no window left CLOSING it ends at once, every surface EMPTY and CLEAR_DONE set, and else it is pending with
the surfaces of the emptied windows released (R34, R35). The frame that `answered` describes is the model's choice
(notes/assumptions/2.md). -/
def Obligations.ClearAllTearsDownTables : Prop :=
  ∀ s : State, s.resetN = true →
    (s.wt.clearAllPending = true → exec .clearAll s = .next (answered s 0x70#8 [] [0x01#8]))
      ∧ (s.wt.clearAllPending = false →
          ∃ t, exec .clearAll s = .next (answered t 0x70#8 [] [0x00#8])
            ∧ (∀ i : Fin 16,
                t.window i
                  = match (s.window i).state with
                    | .empty => Window.emptied (s.window i).generation
                    | .staged => Window.emptied (s.window i).generation
                    | .closing => s.window i
                    | _ =>
                      if (s.window i).inFlight = 0 then Window.emptied (s.window i).generation
                      else { s.window i with state := .closing })
            ∧ t.oq = s.oq ∧ t.hsp = s.hsp ∧ t.msp = s.msp ∧ t.resetN = s.resetN ∧ t.pending = s.pending
            ∧ ((∀ i : Fin 16, (t.window i).state ≠ .closing) →
                t.wt.clearAllPending = false ∧ (∀ k : Fin 8, t.surface k = none)
                  ∧ t.fu = { s.fu with notices := { s.fu.notices with clearDone := true } })
            ∧ ((∃ i : Fin 16, (t.window i).state = .closing) →
                t.wt.clearAllPending = true ∧ t.fu = s.fu
                  ∧ ∀ k : Fin 8,
                      t.surface k
                        = (s.surface k).map fun d =>
                            { d with
                              refCount :=
                                d.refCount
                                  - (List.finRange 16).countP fun i =>
                                      ((s.window i).state = .live || (s.window i).state = .halted)
                                        && (s.window i).inFlight = 0 && (s.window i).staged.surface = k }))

/-- A command byte that Table 10-3 does not hold is taken with no parameters: status UNKNOWN, no result bytes, no
state outside the frame changed, and after the status byte TRAILING, in which every further byte is ignored (R148,
R152). That the row stands for the frame up to the taking event, leaves the frame in RESPONSE with no bit sent,
and leaves SM_CS_N low so that later edges are clocked, is the model's choice (notes/assumptions/2.md). -/
def Obligations.UnknownCommandChangesNothing : Prop :=
  ∀ (code : Byte) (s : State), s.resetN = true →
    code ∉ [0x10#8, 0x11#8, 0x12#8, 0x20#8, 0x21#8, 0x22#8, 0x30#8, 0x31#8, 0x32#8, 0x33#8, 0x34#8, 0x40#8, 0x50#8,
      0x60#8, 0x70#8] →
    ∃ t, exec (.unknownCommand code) s = .next t
      ∧ t.mgp.phase = .response ∧ t.mgp.bitCount = 0 ∧ t.mgp.params = [] ∧ t.mgp.response = [0x0F#8]
      ∧ SameOutsideFrame s t
      ∧ ∀ dis : List Bool, 8 ≤ dis.length →
          ∃ u, execAll (dis.map fun di => .smSckRisingEdge di) t = .next u
            ∧ u.mgp.phase = .trailing ∧ u.mgp.params = [] ∧ u.mgp.response = [] ∧ SameOutsideFrame s u

/-! ### Host side port -/

/-- H_ACCEPT is high exactly while RESET_N is high and an access is presented that meets the admission conditions
(R52, R125, R128, R133). The handshake takes the access exactly when those conditions hold for it. An access that
does not meet them, or that is presented while RESET_N is low, is held with H_ACCEPT low: it stands at the request
channel, in place of any that stood there, and nothing else changes. The host may withdraw it by lowering H_VALID:
no access is presented then, and nothing else changes (R125, R128, R133). That a held access is taken by a later
handshake command, and that lowering H_VALID is the same command without an access, is the model's reading
(notes/assumptions/4.md); that H_ACCEPT is low with no access presented is its choice (notes/assumptions/21.md). -/
def Obligations.InadmissibleAccessIsHeld : Prop :=
  ∀ (a : Access) (s : State),
    (hAccept s = true ↔ s.resetN = true ∧ ∃ b, s.hsp.request = some b ∧ Admitted s b)
      ∧ (∃ t, exec (.requestHandshake (some a)) s = .next t
          ∧ (t.hsp.request = none ↔ s.resetN = true ∧ Admitted s a))
      ∧ (s.resetN = false ∨ ¬ Admitted s a →
          ∃ t, exec (.requestHandshake (some a)) s = .next t ∧ hAccept t = false
            ∧ t = { s with hsp := { s.hsp with request := some a } })
      ∧ ∃ t, exec (.requestHandshake none) s = .next t ∧ hAccept t = false
          ∧ t = { s with hsp := { s.hsp with request := none } }

/-- A pass-through write with a byte enabled, not merging, adds one PLAIN_WRITE of its enabled bytes at its own
address; with no byte enabled it is taken with no MOP (R41, R126). The serial number and the data 0 outside the
mask are the model's (notes/assumptions/5.md, 11.md). -/
def Obligations.PassThroughWriteCreatesOneMop : Prop :=
  ∀ (a : Access) (s : State), s.resetN = true → a.write = true → MatchesNone s a →
    (a.be = 0#4 → exec (.requestHandshake (some a)) s = .next { s with hsp := { s.hsp with request := none } })
      ∧ (a.be ≠ 0#4 → s.oq.mops.length < 32 → ∀ (m : Mop) (o : Nat), o = a.addr.toNat * 4 % 64 →
          m.id = s.oq.nextId → m.block = a.addr.extractLsb' 4 26 ++ 0#6 → m.mask = (a.be.setWidth 64) <<< o →
          m.content
            = .plain
                (Vector.ofFn fun k =>
                  if o ≤ k.val ∧ k.val < o + 4 ∧ a.be.getLsbD (k.val - o) then
                    leByte a.wdata (k.val - o)
                  else 0#8) →
          m.window = none → m.hostAddr = a.addr ++ 0#2 → m.state = .pending →
          (∀ tail, ¬ TailTakes s.oq tail m) →
          exec (.requestHandshake (some a)) s
            = .next
                { s with
                  hsp := { s.hsp with request := none }
                  oq :=
                    { s.oq with
                      mops := s.oq.mops ++ [m]
                      nextId := s.oq.nextId + 1 } })

/-- A pass-through read adds one READ MOP of the four bytes of its word and one response queue entry that waits on it
(R42, R51, R127). The serial numbers are the model's (notes/assumptions/5.md). -/
def Obligations.PassThroughReadCreatesMopAndEntry : Prop :=
  ∀ (a : Access) (s : State), s.resetN = true → a.write = false → MatchesNone s a →
    s.oq.mops.length < 32 → s.hsp.entries.length < 8 → ∀ o : Nat, o = a.addr.toNat * 4 % 64 →
    exec (.requestHandshake (some a)) s
      = .next
          { s with
            hsp :=
              { s.hsp with
                request := none
                entries := s.hsp.entries ++ [{ id := s.hsp.nextId, word := 0#32, outstanding := 1, error := false }]
                nextId := s.hsp.nextId + 1 }
            oq :=
              { s.oq with
                mops :=
                  s.oq.mops
                    ++ [ { id := s.oq.nextId
                           block := a.addr.extractLsb' 4 26 ++ 0#6
                           mask := 0xF#64 <<< o
                           content := .read s.hsp.nextId (.bytes [(0, o), (1, o + 1), (2, o + 2), (3, o + 3)])
                           window := none
                           hostAddr := a.addr ++ 0#2
                           state := .pending } ]
                nextId := s.oq.nextId + 1 } }

/-- The first MOP of a write merges into a tail that takes it: the tail's mask grows by the new mask, the new bytes
replace the old ones, the tail keeps its place, window tag and host address, and only the later MOPs are created
(R53, R54). The serial number that the merged MOP does not use is the model's (notes/assumptions/5.md). -/
def Obligations.WriteMergesIntoPendingTail : Prop :=
  ∀ (a : Access) (s : State) (m tail : Mop) (rest : List Mop) (old new : Block), s.resetN = true → a.write = true →
    (MatchesNone s a ∨ ∃ i, Matches s i a) → Admitted s a → accessMops s a = m :: rest → TailTakes s.oq tail m →
    tail.content = .plain old → m.content = .plain new →
    ∃ t, exec (.requestHandshake (some a)) s = .next t
      ∧ t.oq
          = { s.oq with
              mops :=
                s.oq.mops.dropLast
                  ++ { tail with
                        mask := tail.mask ||| m.mask
                        content :=
                          .plain (Vector.ofFn fun k => if m.mask.getLsbD k.val then new[k.val] else old[k.val]) }
                      :: rest
              nextId := s.oq.nextId + 1 + rest.length }
      ∧ t.hsp = { s.hsp with request := none }
      ∧ (∀ i : Fin 16, Matches s i a →
          t.window i
            = { s.window i with
                inFlight := (s.window i).inFlight + rest.length
                counters :=
                  { (s.window i).counters with accepted := min 65535 ((s.window i).counters.accepted + 1) } })
      ∧ (∀ j : Fin 16, ¬ Matches s j a → t.window j = s.window j)
      ∧ t.wt.clearAllPending = s.wt.clearAllPending ∧ t.st = s.st ∧ t.msp = s.msp ∧ t.fu = s.fu ∧ t.mgp = s.mgp
      ∧ t.csN = s.csN ∧ t.resetN = s.resetN ∧ t.pending = s.pending

/-- An access to a HALTED window, or to a LIVE window whose kind does not serve its direction, creates no MOP: a write
is dropped, a read gets an entry complete with its error flag set, and the refused counter rises; the second is
also reported as WRONG_DIRECTION with the window tag and the host address (R40, R54 to R56). The serial number is
the model's (notes/assumptions/5.md), and so is the order of the effects in the event (notes/assumptions/14.md). -/
def Obligations.RefusedAccessCreatesNoMop : Prop :=
  ∀ (a : Access) (s u : State) (i : Fin 16), s.resetN = true → Matches s i a →
    (a.write = false → s.hsp.entries.length < 8) →
    u
      = { s.withWindow i
            { s.window i with
              counters :=
                { (s.window i).counters with refused := min 65535 ((s.window i).counters.refused + 1) } } with
          hsp :=
            if a.write then { s.hsp with request := none }
            else
              { s.hsp with
                request := none
                entries := s.hsp.entries ++ [{ id := s.hsp.nextId, word := 0#32, outstanding := 0, error := true }]
                nextId := s.hsp.nextId + 1 } } →
    ((s.window i).state = .halted → exec (.requestHandshake (some a)) s = .next u)
      ∧ ((s.window i).state = .live → ¬ Serves (s.window i).staged.kind a →
          exec (.requestHandshake (some a)) s
            = .next
                (reportFault
                  { kind := .wrongDirection
                    phase := none
                    window := some { index := i, generation := (s.window i).generation }
                    hostAddr := some (a.addr ++ 0#2)
                    block := none
                    tag := none
                    halted := false
                    status := none }
                  u))

/-- A served access that does not merge enters the queue whole: its MOPs at the young end; accepted and in-flight
rise; a read gets its entry, complete at once when every pixel is masked; nothing else changes (R50, R51, R54,
R57). Merged or not, its MOPs are PENDING with the window's tag and the access's address, and are in order those
of the cut of the kind's bytes or pixels at block boundaries, with the block address, mask and content of each
part (R49, R50). SplittingMakesOneMopPerBlock says what the parts are, WriteTransformsDrawPixels and
ReadDataLandsAtItsPositions what the bytes and pixels are. The serial numbers are the model's
(notes/assumptions/5.md). -/
def Obligations.ServedAccessEntersQueue : Prop :=
  ∀ (a : Access) (s : State) (i : Fin 16), s.resetN = true → Matches s i a → (s.window i).state = .live →
    Serves (s.window i).staged.kind a →
    (Admitted s a → (∀ m tail, (accessMops s a).head? = some m → ¬ TailTakes s.oq tail m) →
      exec (.requestHandshake (some a)) s
        = .next
            { s.withWindow i
                { s.window i with
                  inFlight := (s.window i).inFlight + (accessMops s a).length
                  counters :=
                    { (s.window i).counters with accepted := min 65535 ((s.window i).counters.accepted + 1) } } with
              oq :=
                { s.oq with
                  mops := s.oq.mops ++ accessMops s a
                  nextId := s.oq.nextId + (accessMops s a).length }
              hsp :=
                if a.write then { s.hsp with request := none }
                else
                  { s.hsp with
                    request := none
                    entries :=
                      s.hsp.entries
                        ++ [ { id := s.hsp.nextId
                               word := 0#32
                               outstanding := (accessMops s a).length
                               error := false } ]
                    nextId := s.hsp.nextId + 1 } })
      ∧ (∀ (k : Nat) (m : Mop), (accessMops s a)[k]? = some m →
          m.id = s.oq.nextId + k ∧ m.state = .pending ∧ m.hostAddr = a.addr ++ 0#2
            ∧ m.window = some { index := i, generation := (s.window i).generation })
      ∧ ∀ (d : Surface) (parts : List BlockPart), s.surface (s.window i).staged.surface = some d →
          parts
            = (match (s.window i).staged.kind with
                | .direct =>
                  if a.write then plainParts (directBytes (s.window i) d a)
                  else byteReadParts s.hsp.nextId (directSources (s.window i) d a)
                | .expand => plainParts (expandBytes (s.window i) d a)
                | .coverage =>
                  coverageParts d.format
                    (BitVec.ofNat 32 ((s.window i).staged.foreground.toNat % 256 ^ d.format.bpp))
                    (coveragePixels (s.window i) d a)
                | .matchKey => matchReadParts s.hsp.nextId d.format (matchSources (s.window i) d a)) →
          (accessMops s a).map (fun m => (m.block, m.mask, m.content))
            = parts.map fun p => (BitVec.ofNat 32 (64 * p.block), p.mask, p.content)

/-- Bytes and pixels in ascending address are cut at block boundaries: one MOP for each block that holds one, blocks
in ascending order. For a DIRECT or EXPAND write each mask is exactly the bytes of its block and each data byte
the byte's value; for a COVERAGE write each mask is exactly the bytes of the block's pixels and the content that
of those pixels; for a read each mask is exactly the bytes that the contribution map names, or the bytes of its
pixels for MATCH, and the map ties each result position to its block offset (R49, R60, R66, R67, R77, R78). The
lists of every kind do ascend, and no pixel of a sound surface crosses a boundary. -/
def Obligations.SplittingMakesOneMopPerBlock : Prop :=
  (∀ bytes : List (Nat × Byte), BytesAscend bytes →
    CutAtBlocks bytes (plainParts bytes)
      ∧ ∀ p ∈ plainParts bytes,
          (∀ k < 64, p.mask.getLsbD k = true ↔ ∃ v, (64 * p.block + k, v) ∈ bytes)
            ∧ ∃ data : Block, p.content = .plain data
                ∧ ∀ (k : Fin 64) (v : Byte), (64 * p.block + k.val, v) ∈ bytes → data[k.val] = v)
    ∧ (∀ (f : PixelFormat) (fg : Word) (pixels : List (Nat × Nat)), PixelsAscend f pixels → PixelsInBlocks f pixels →
        CutAtBlocks pixels (coverageParts f fg pixels)
          ∧ ∀ p ∈ coverageParts f fg pixels,
              (∀ k < 64,
                p.mask.getLsbD k = true ↔
                  ∃ x ∈ pixels, x.1 ≤ 64 * p.block + k ∧ 64 * p.block + k < x.1 + f.bpp)
                ∧ p.content = coverageContent f fg (itemsIn p.block pixels))
    ∧ (∀ (link : Nat) (sources : List (Nat × Nat)), BytesAscend sources →
        CutAtBlocks sources (byteReadParts link sources)
          ∧ ∀ p ∈ byteReadParts link sources,
              (∀ k < 64, p.mask.getLsbD k = true ↔ ∃ r, (64 * p.block + k, r) ∈ sources)
                ∧ p.content = .read link (.bytes ((itemsIn p.block sources).map fun x => (x.2, x.1 % 64))))
    ∧ (∀ (link : Nat) (f : PixelFormat) (sources : List (Nat × Nat)), PixelsAscend f sources →
        PixelsInBlocks f sources →
        CutAtBlocks sources (matchReadParts link f sources)
          ∧ ∀ p ∈ matchReadParts link f sources,
              (∀ k < 64,
                p.mask.getLsbD k = true ↔
                  ∃ x ∈ sources, x.1 ≤ 64 * p.block + k ∧ 64 * p.block + k < x.1 + f.bpp)
                ∧ p.content = .read link (.bits ((itemsIn p.block sources).map fun x => (x.2, x.1 % 64))))
    ∧ ∀ (w : Window) (d : Surface) (a : Access),
        BytesAscend (passBytes a) ∧ BytesAscend (passSources a)
          ∧ BytesAscend (directBytes w d a) ∧ BytesAscend (expandBytes w d a) ∧ BytesAscend (directSources w d a)
          ∧ PixelsAscend d.format (coveragePixels w d a) ∧ PixelsAscend d.format (matchSources w d a)
          ∧ (SurfaceSound d →
              PixelsInBlocks d.format (coveragePixels w d a) ∧ PixelsInBlocks d.format (matchSources w d a))

/-- Which bytes a write of each kind draws: DIRECT the enabled host bytes at their pixels' places, EXPAND the
foreground or background bytes of the enabled pixels by their pattern bits, COVERAGE the pixels with an enabled
value above 0; and a COVERAGE MOP is a PLAIN_WRITE of foreground bytes exactly when all its values are 15 (R45 to
R48, R61 to R66). The MOPs of REQUEST_HANDSHAKE for such a write, which enter the queue with it, carry exactly
these: for DIRECT and EXPAND PLAIN_WRITEs that together hold exactly the drawn bytes; for COVERAGE a MOP for each
block with a covered pixel, its mask the bytes of the block's covered pixels, its content the foreground bytes or
the pixel list (R49, R60, R66, R67). -/
def Obligations.WriteTransformsDrawPixels : Prop :=
  (∀ (w : Window) (d : Surface) (a : Access),
    (∀ x v, (x, v) ∈ directBytes w d a ↔ DrawnDirect w d a x v)
      ∧ (∀ x v, (x, v) ∈ expandBytes w d a ↔ DrawnExpand w d a x v)
      ∧ ∀ x c, (x, c) ∈ coveragePixels w d a ↔ Covered w d a x c)
    ∧ (∀ (f : PixelFormat) (fg : Word) (pixels : List (Nat × Nat)),
        ((∀ x ∈ pixels, x.2 = 15) →
          coverageContent f fg pixels = .plain (blockOf (pixels.flatMap fun x => pixelBytes f (x.1 % 64) fg)))
          ∧ ((∃ x ∈ pixels, x.2 ≠ 15) →
              coverageContent f fg pixels = .blend (pixels.map fun x => (x.1 % 64, x.2)) fg f))
    ∧ ∀ (a : Access) (s : State) (i : Fin 16) (w : Window) (d : Surface), s.resetN = true → a.write = true →
        ServedOn s i a d → w = s.window i →
        (Admitted s a → (∀ m tail, (accessMops s a).head? = some m → ¬ TailTakes s.oq tail m) →
          ∃ t, exec (.requestHandshake (some a)) s = .next t ∧ t.oq.mops = s.oq.mops ++ accessMops s a)
          ∧ (accessMops s a).Pairwise (fun m n => m.block.toNat < n.block.toNat)
          ∧ (∀ m ∈ accessMops s a, m.block.toNat % 64 = 0 ∧ m.mask ≠ 0#64)
          ∧ (w.staged.kind = .direct →
              (∀ m ∈ accessMops s a, ∃ data, m.content = .plain data)
                ∧ ∀ x v, CarriesByte (accessMops s a) x v ↔ DrawnDirect w d a x v)
          ∧ (w.staged.kind = .expand →
              (∀ m ∈ accessMops s a, ∃ data, m.content = .plain data)
                ∧ ∀ x v, CarriesByte (accessMops s a) x v ↔ DrawnExpand w d a x v)
          ∧ (w.staged.kind = .coverage →
              (∀ x c, Covered w d a x c → ∃ m ∈ accessMops s a, m.block.toNat = x / 64 * 64)
                ∧ ∀ (m : Mop) (b : Nat), m ∈ accessMops s a → b = m.block.toNat →
                    (∀ k < 64,
                      m.mask.getLsbD k = true ↔ ∃ x c, Covered w d a x c ∧ x ≤ b + k ∧ b + k < x + d.format.bpp)
                      ∧ ((∀ x c, Covered w d a x c → x / 64 * 64 = b → c = 15) →
                          ∃ data : Block, m.content = .plain data
                            ∧ ∀ x c, Covered w d a x c → x / 64 * 64 = b → ∀ k < d.format.bpp,
                                blockByte data (x - b + k) = leByte w.staged.foreground k)
                      ∧ ((∃ x c, Covered w d a x c ∧ x / 64 * 64 = b ∧ c ≠ 15) →
                          ∃ (pixels : List (Nat × Nat)) (fg : Word), m.content = .blend pixels fg d.format
                            ∧ fg.toNat = w.staged.foreground.toNat % 256 ^ d.format.bpp
                            ∧ PixelsAscend d.format pixels
                            ∧ ∀ o c, (o, c) ∈ pixels ↔ o < 64 ∧ Covered w d a (b + o) c))

/-- A pixel of a sound surface lies wholly in one 64-byte block and below the top of the address space (R5, R60). -/
def Obligations.SurfacePixelsStayInOneBlock : Prop :=
  ∀ (d : Surface) (x y : Nat), SurfaceSound d → x < d.width.toNat → y < d.height.toNat →
    pixelAddr d x y % 64 + d.format.bpp ≤ 64 ∧ pixelAddr d x y + d.format.bpp - 1 ≤ 0xFFFFFFFF

/-- Read data lands at the result positions of its contribution map and nowhere else: bytes unchanged, match bits 1
exactly where the pixel agrees with the key at every bit of the key mask (R77, R79, R80). And what a window read
reads: the READ MOPs of REQUEST_HANDSHAKE, which enter the queue with it, name the read's entry; for DIRECT their
maps tie each result byte of an unmasked pixel to that byte, for MATCH each result bit of an unmasked pixel to
that pixel, in ascending order and nothing else; and each mask is exactly the bytes of its map (R44, R49, R77,
R78). -/
def Obligations.ReadDataLandsAtItsPositions : Prop :=
  (∀ (entries : List (Nat × Nat)) (data : Block) (w : Word), (entries.map Prod.fst).Nodup →
      ((∀ e ∈ entries, e.1 < 4) →
        ∀ k < 4,
          (∀ o, (k, o) ∈ entries → leByte (placeBytes entries data w) k = blockByte data o)
            ∧ ((∀ o, (k, o) ∉ entries) → leByte (placeBytes entries data w) k = leByte w k))
        ∧ ((∀ e ∈ entries, e.1 < 32) →
            ∀ (f : PixelFormat) (key keyMask : Word), ∀ k < 32,
              (∀ o, (k, o) ∈ entries →
                ((placeBits entries f key keyMask data w).getLsbD k = true ↔
                  ∀ n < 8 * f.bpp, keyMask.getLsbD n = true →
                    (pixelValue f data o).testBit n = key.getLsbD n))
                ∧ ((∀ o, (k, o) ∉ entries) → (placeBits entries f key keyMask data w).getLsbD k = w.getLsbD k)))
    ∧ (∀ (w : Window) (d : Surface) (a : Access),
        (∀ x k, (x, k) ∈ directSources w d a ↔ ReadDirect w d a k x)
          ∧ ∀ x n, (x, n) ∈ matchSources w d a ↔ ReadMatch w d a n x)
    ∧ ∀ (a : Access) (s : State) (i : Fin 16) (w : Window) (d : Surface), s.resetN = true → a.write = false →
        ServedOn s i a d → w = s.window i →
        (Admitted s a →
          ∃ t, exec (.requestHandshake (some a)) s = .next t ∧ t.oq.mops = s.oq.mops ++ accessMops s a)
          ∧ (accessMops s a).Pairwise (fun m n => m.block.toNat < n.block.toNat)
          ∧ (w.staged.kind = .direct →
              (∀ k x, ReadDirect w d a k x → ∃ m ∈ accessMops s a, m.block.toNat = x / 64 * 64)
                ∧ ∀ m ∈ accessMops s a, ∃ entries, m.content = .read s.hsp.nextId (.bytes entries)
                    ∧ entries.Pairwise (fun x y => x.1 < y.1)
                    ∧ (∀ k o, (k, o) ∈ entries ↔ o < 64 ∧ ReadDirect w d a k (m.block.toNat + o))
                    ∧ m.block.toNat % 64 = 0
                    ∧ ∀ o < 64, m.mask.getLsbD o = true ↔ ∃ k, (k, o) ∈ entries)
          ∧ (w.staged.kind = .matchKey →
              (∀ n x, ReadMatch w d a n x → ∃ m ∈ accessMops s a, m.block.toNat = x / 64 * 64)
                ∧ ∀ m ∈ accessMops s a, ∃ entries, m.content = .read s.hsp.nextId (.bits entries)
                    ∧ entries.Pairwise (fun x y => x.1 < y.1)
                    ∧ (∀ n o, (n, o) ∈ entries ↔ o < 64 ∧ ReadMatch w d a n (m.block.toNat + o))
                    ∧ m.block.toNat % 64 = 0
                    ∧ ∀ k < 64,
                        m.mask.getLsbD k = true ↔ ∃ n o, (n, o) ∈ entries ∧ o ≤ k ∧ k < o + d.format.bpp)

/-- The head entry is answered when it is complete, with its word and its error flag, and leaves the queue; without a
complete head nothing is offered and nothing changes (R130). The record of the last response is the model's own
(notes/assumptions/6.md). That ENTRY_ANSWERED without a complete head changes nothing is the model's reading
(notes/assumptions/3.md). -/
def Obligations.CompleteHeadIsAnswered : Prop :=
  ∀ s : State, s.resetN = true →
    (∀ e rest, s.hsp.entries = e :: rest → e.outstanding = 0 →
      hOffer s = some { data := e.word, error := e.error }
        ∧ exec .entryAnswered s
            = .next
                { s with
                  hsp :=
                    { s.hsp with
                      entries := rest
                      lastResponse := some { data := e.word, error := e.error } } })
      ∧ ((∀ e rest, s.hsp.entries = e :: rest → e.outstanding ≠ 0) →
          hOffer s = none ∧ exec .entryAnswered s = .next s)

/-! ### Issue -/

/-- One issue event sends the eligible command of the oldest MOP that has one, with the lowest-numbered FREE tag: the
MOP enters FETCHING or ISSUED, the tag becomes OUTSTANDING with its deadline, and the command carries the MOP's
block and mask, and for a write the MOP's final data: the bytes of a PLAIN_WRITE, or the result of the combine of
an RMW_WRITE (R73, R96, R110, R114, R115). Without an eligible command or a FREE tag nothing is issued. The clock
and the record of the last command are the model's own (notes/assumptions/1.md, 6.md). That ISSUE without either
changes nothing is the model's reading (notes/assumptions/3.md). -/
def Obligations.IssueTakesOldestEligibleCommand : Prop :=
  ∀ s : State, s.resetN = true →
    (∀ (older younger : List Mop) (m : Mop) (t : Fin 8) (p : Phase) (data : Block), CreationOrder s →
      s.oq.mops = older ++ m :: younger → m.nextPhase = some p → eligible older m = true →
      (∀ a x b, older = a ++ x :: b → eligible a x = false) →
      s.tag t = .free → (∀ u < t, s.tag u ≠ .free) →
      (p = .write → m.content = .plain data ∨ m.content = .blended data) →
      (p ≠ .write → data = Vector.replicate 64 0#8) →
      exec .issue s
        = .next
            { s with
              oq :=
                { s.oq with
                  mops :=
                    older
                      ++ { m with state := if p = .fetch then .fetching t else .issued t }
                        :: younger }
              msp :=
                { s.msp with
                  tags :=
                    s.msp.tags.set t.val
                      (.outstanding m.id p
                        (if s.msp.timeout = 0#8 then none else some (s.msp.clock + s.msp.timeout.toNat * 256)) m.block)
                  lastCommand :=
                    some
                      { write := p = .write
                        tag := t
                        block := m.block
                        mask := m.mask
                        data := data } } })
      ∧ ((∀ a x b, s.oq.mops = a ++ x :: b → eligible a x = false) ∨ (∀ t, s.tag t ≠ .free) →
          exec .issue s = .next s)

/-- The ordering law in terms of the older MOPs: a write command waits for every older write to be issued and for
every older overlapping READ to be issued; a read command or fetch waits for every older overlapping write to be
issued; MOPs overlap when they share a block and a byte (R92 to R95). The command that a MOP may issue next is the
write of a PENDING PLAIN_WRITE or a READY RMW_WRITE, the fetch of a PENDING RMW_WRITE or the read of a PENDING
READ (R91). That an older write in ISSUED lets a younger write be issued even when its own command has no timer,
where the last bullet of R97 differs from R93, is the model's choice (notes/assumptions/22.md). -/
def Obligations.EligibilityFollowsOrderingLaw : Prop :=
  ∀ (older : List Mop) (m : Mop),
    (m.nextPhase = some .write →
      (eligible older m = true ↔
        ∀ o ∈ older,
          (o.isWrite = true → ∃ t, o.state = .issued t)
            ∧ (o.isWrite = false → o.state = .pending →
                ¬ (o.block = m.block ∧ ∃ k < 64, o.mask.getLsbD k = true ∧ m.mask.getLsbD k = true))))
      ∧ ((m.nextPhase = some .read ∨ m.nextPhase = some .fetch) →
          (eligible older m = true ↔
            ∀ o ∈ older, o.isWrite = true →
              (o.block = m.block ∧ ∃ k < 64, o.mask.getLsbD k = true ∧ m.mask.getLsbD k = true) →
              ∃ t, o.state = .issued t))
      ∧ (m.nextPhase = none → eligible older m = false)
      ∧ (m.nextPhase = some .write ↔
          (∃ data, m.content = .plain data ∧ m.state = .pending)
            ∨ ∃ data, m.content = .blended data ∧ m.state = .ready)
      ∧ (m.nextPhase = some .fetch ↔ ∃ pixels fg f, m.content = .blend pixels fg f ∧ m.state = .pending)
      ∧ (m.nextPhase = some .read ↔ ∃ link map, m.content = .read link map ∧ m.state = .pending)

/-- With every tag FREE and a MOP in the queue, an issue event sends the command of the oldest MOP, so the queue
cannot stand still while the port accepts commands; and a MOP at the head always has an eligible or an outstanding
command (R97). -/
def Obligations.OldestMopIsNeverStuck : Prop :=
  ∀ (s : State) (m : Mop) (rest : List Mop), s.resetN = true → TagsSound s → s.oq.mops = m :: rest →
    (eligible [] m = true ∨ ∃ t p deadline, s.tag t = .outstanding m.id p deadline m.block)
      ∧ ((∀ t, s.tag t = .free) →
          ∃ u p deadline, exec .issue s = .next u ∧ u.tag 0 = .outstanding m.id p deadline m.block)

/-! ### Responses and expiry -/

/-- A response with status OK to an OUTSTANDING tag frees the tag. A write is removed; a fetch makes its RMW_WRITE
READY with the combined data; a read is removed after its data has been placed in its entry, unless the entry's
error flag is set, and the entry's count has fallen by 1 (R70, R82, R98 to R100, R114). -/
def Obligations.OkResponseCompletesItsMop : Prop :=
  ∀ (s : State) (t : Fin 8) (data : Block) (m : Mop) (deadline : Option Nat) (p : Phase), s.resetN = true →
    CreationOrder s → m ∈ s.oq.mops → s.tag t = .outstanding m.id p deadline m.block →
    (p = .write → exec (.memoryResponse t .ok data) s = .next (removeMop m (s.withTag t .free)))
      ∧ (∀ older younger pixels fg f, p = .fetch → s.oq.mops = older ++ m :: younger →
          m.content = .blend pixels fg f →
          exec (.memoryResponse t .ok data) s
            = .next
                ((s.withTag t .free).withMops
                  (older ++ { m with state := .ready, content := .blended (combine pixels fg f data) } :: younger)))
      ∧ (∀ link map, p = .read → m.content = .read link map →
          ∃ place : Word → Word,
            exec (.memoryResponse t .ok data) s
                = .next
                    (removeMop m
                      ((s.withTag t .free).withEntries
                        (s.hsp.entries.map fun e =>
                          if e.id = link then
                            { e with
                              word := if e.error then e.word else place e.word
                              outstanding := e.outstanding - 1 }
                          else e)))
              ∧ (∀ entries, map = .bytes entries → place = placeBytes entries data)
              ∧ ∀ entries tag d, map = .bits entries → m.window = some tag →
                  s.surface (s.window tag.index).staged.surface = some d →
                  place
                    = placeBits entries d.format (s.window tag.index).staged.key (s.window tag.index).staged.keyMask
                        data)

/-- A response with status ERR to an OUTSTANDING tag frees the tag, fails the entry of a READ MOP, removes the MOP,
and reports FETCH_ERROR, READ_ERROR or WRITE_ERROR with the MOP's window tag, host address, block and tag (R71,
R84, R98, R135). That the removal stands before the report is the model's order in the event
(notes/assumptions/14.md). -/
def Obligations.ErrResponseFailsItsMop : Prop :=
  ∀ (s : State) (t : Fin 8) (data : Block) (m : Mop) (deadline : Option Nat) (p : Phase), s.resetN = true →
    CreationOrder s → m ∈ s.oq.mops → s.tag t = .outstanding m.id p deadline m.block →
    exec (.memoryResponse t .err data) s
      = .next
          (reportFault
            { kind :=
                match p with
                | .fetch => .fetchError
                | .read => .readError
                | .write => .writeError
              phase := none
              window := m.window
              hostAddr := some m.hostAddr
              block := some m.block
              tag := some t
              halted := false
              status := none }
            (removeMop m ((s.withTag t .free).withEntries (entriesAfterFailure m.content s.hsp.entries))))

/-- A response to a QUARANTINED tag frees it and is recorded as LATE_RESPONSE with the block it kept and the status; a
response to a FREE tag is recorded as UNKNOWN_TAG; nothing else changes, and no window halts. While RESET_N is low
a response is discarded with no record (R119, R120, R124, R136). -/
def Obligations.StrayResponseIsOnlyRecorded : Prop :=
  ∀ (s : State) (t : Fin 8) (st : RespStatus) (data : Block),
    (s.resetN = false → exec (.memoryResponse t st data) s = .next s)
      ∧ (∀ p block, s.resetN = true → s.tag t = .quarantined p block →
          exec (.memoryResponse t st data) s
            = .next
                { s.withTag t .free with
                  fu :=
                    loggedFault
                      { kind := .lateResponse
                        phase := none
                        window := none
                        hostAddr := none
                        block := some block
                        tag := some t
                        halted := false
                        status := some st }
                      s.fu })
      ∧ (s.resetN = true → s.tag t = .free →
          exec (.memoryResponse t st data) s
            = .next
                { s with
                  fu :=
                    loggedFault
                      { kind := .unknownTag
                        phase := none
                        window := none
                        hostAddr := none
                        block := none
                        tag := some t
                        halted := false
                        status := none }
                      s.fu })

/-- The expiry of a tag's timer makes the tag QUARANTINED with its phase and block, fails the entry of a READ MOP,
removes the MOP, and reports TIMEOUT with the phase (R101, R117). That the removal stands before the report is the
model's order in the event (notes/assumptions/14.md). A tag without a running timer has no expiry. The clock
standing at the deadline is the model's choice (notes/assumptions/1.md). That EXPIRY then changes nothing is the
model's reading (notes/assumptions/3.md). -/
def Obligations.ExpiryQuarantinesItsTag : Prop :=
  ∀ (s : State) (t : Fin 8), s.resetN = true →
    (∀ (m : Mop) (p : Phase) (d : Nat), CreationOrder s → m ∈ s.oq.mops →
      s.tag t = .outstanding m.id p (some d) m.block →
      exec (.expiry t) s
        = .next
            (reportFault
              { kind := .timeout
                phase := some p
                window := m.window
                hostAddr := some m.hostAddr
                block := some m.block
                tag := some t
                halted := false
                status := none }
              (removeMop m
                ({ s with
                    msp :=
                      { s.msp with
                        tags := s.msp.tags.set t.val (.quarantined p m.block)
                        clock := max s.msp.clock d } }.withEntries
                  (entriesAfterFailure m.content s.hsp.entries)))))
      ∧ ((∀ id p d block, s.tag t ≠ .outstanding id p (some d) block) → exec (.expiry t) s = .next s)

/-! ### Blending -/

/-- The blend of one channel is the rounded mean that R68 gives: its result lies between the two colours, is the
foreground at coverage 15, and is the common value of equal colours (R68). -/
def Obligations.BlendStaysBetweenColours : Prop :=
  ∀ f d c : Nat, 1 ≤ c → c ≤ 15 →
    (blendChannel f d c : ℤ) = ⌊((f : ℚ) * c + d * (15 - c) + 7) / 15⌋
      ∧ (c = 15 → blendChannel f d c = f)
      ∧ (c ≤ 14 → min f d ≤ blendChannel f d c ∧ blendChannel f d c ≤ max f d)
      ∧ (f = d → blendChannel f d c = f)

/-- The combine writes, at each pixel's bytes, the foreground at coverage 15 and else the pixel whose every channel is
the blend of its two channel values, the channels at the positions and widths of Table 1-4, and 0 at every byte of
no pixel (R1, R60, R69, R70). Bytes outside the mask held as 0 are the model's reading (notes/assumptions/11.md). -/
def Obligations.CombineWritesBlendedPixels : Prop :=
  ∀ (f : PixelFormat) (fg : Word) (fetched : Block) (pixels : List (Nat × Nat)), fg.toNat < 256 ^ f.bpp →
    pixels.Pairwise (fun a b => a.1 + f.bpp ≤ b.1) → (∀ px ∈ pixels, px.1 + f.bpp ≤ 64 ∧ 1 ≤ px.2 ∧ px.2 ≤ 15) →
    (∀ px ∈ pixels,
      ∃ v : Word, v.toNat < 256 ^ f.bpp
        ∧ (px.2 = 15 → v = fg)
        ∧ (px.2 ≤ 14 → ∀ ch ∈ channelsOfTable f,
            v.toNat / 2 ^ ch.1 % 2 ^ ch.2
              = blendChannel (fg.toNat / 2 ^ ch.1 % 2 ^ ch.2)
                  (pixelValue f fetched px.1 / 2 ^ ch.1 % 2 ^ ch.2) px.2)
        ∧ ∀ k < f.bpp, blockByte (combine pixels fg f fetched) (px.1 + k) = leByte v k)
      ∧ ∀ o < 64, (∀ px ∈ pixels, ¬ (px.1 ≤ o ∧ o < px.1 + f.bpp)) → blockByte (combine pixels fg f fetched) o = 0#8

/-! ### Removal, halt, drain and fences -/

/-- A fault that names a LIVE window with stop-on-fault on halts it: its PENDING MOPs leave the queue, the window is
HALTED with that many fewer in flight and that many more cancelled, the entries of its cancelled READs fail, and
WINDOW_HALTED is set; in the same event the fences complete whose older MOPs have all left; nothing else changes.
Any other fault is a record alone. The record is stored while fewer than eight are held and else counted as lost
(R31, R85, R103, R106, R136, R138, R139). Marks and serial numbers are the model's (notes/assumptions/5.md). -/
def Obligations.FaultHaltsStopOnFaultWindow : Prop :=
  ∀ (r : FaultRecord) (s : State),
    (∀ i g, r.window = some { index := i, generation := g } → (s.window i).state = .live →
      (s.window i).staged.stopOnFault = true →
      ∀ cancelled : List Mop,
        cancelled
          = s.oq.mops.filter (fun m => decide (m.window.map WindowTag.index = some i) && m.state = .pending) →
        (∀ j : Fin 16,
          (reportFault r s).window j
            = if j = i then
                { s.window i with
                  state := .halted
                  inFlight := (s.window i).inFlight - cancelled.length
                  counters :=
                    { (s.window i).counters with
                      cancelled := min 65535 ((s.window i).counters.cancelled + cancelled.length) } }
              else s.window j)
          ∧ (reportFault r s).oq.mops
              = s.oq.mops.filter (fun m => !(decide (m.window.map WindowTag.index = some i) && m.state = .pending))
          ∧ (reportFault r s).hsp
              = { s.hsp with
                  entries :=
                    s.hsp.entries.map fun e =>
                      if readsFor cancelled e.id = 0 then e
                      else
                        { e with
                          word := 0#32
                          error := true
                          outstanding := e.outstanding - readsFor cancelled e.id } }
          ∧ (reportFault r s).fu.notices.windowHalted = true
          ∧ (reportFault r s).fu.haltedSet = s.fu.haltedSet ||| BitVec.twoPow 16 i.val
          ∧ (reportFault r s).fu.log
              = (if s.fu.log.length < 8 then s.fu.log ++ [{ r with halted := true }] else s.fu.log)
          ∧ (reportFault r s).fu.lost = (if s.fu.log.length < 8 then s.fu.lost else min 255 (s.fu.lost + 1))
          ∧ (reportFault r s).st = s.st ∧ (reportFault r s).msp = s.msp
          ∧ (reportFault r s).wt.clearAllPending = s.wt.clearAllPending
          ∧ (s.oq.fences.Pairwise (fun x y => x.mark ≤ y.mark) → FencesSettle s (reportFault r s))
          ∧ (reportFault r s).oq.nextFence = s.oq.nextFence ∧ (reportFault r s).oq.nextId = s.oq.nextId
          ∧ (reportFault r s).fu.notices.windowClosed = s.fu.notices.windowClosed
          ∧ (reportFault r s).fu.notices.clearDone = s.fu.notices.clearDone
          ∧ (reportFault r s).fu.closedSet = s.fu.closedSet ∧ (reportFault r s).fu.enables = s.fu.enables
          ∧ (reportFault r s).mgp = s.mgp ∧ (reportFault r s).csN = s.csN ∧ (reportFault r s).resetN = s.resetN
          ∧ (reportFault r s).pending = s.pending)
      ∧ ((∀ t, r.window = some t →
            (s.window t.index).state ≠ .live ∨ (s.window t.index).staged.stopOnFault = false) →
          reportFault r s = { s with fu := loggedFault r s.fu })

/-- The removal of a MOP takes it from the queue and leaves the rest of it, the host side, the tags, the fault log and
the halted set alone; without a window tag no window and no surface changes. The removal of a window's MOP lowers
the in-flight count. The last one of a CLOSING window drains it: to STAGED with its surface released and
WINDOW_CLOSED set, or during clear-all to EMPTY, and when no window is left CLOSING the clear-all ends with every
surface EMPTY and CLEAR_DONE set (R20, R29, R35, R102). -/
def Obligations.LastRemovalDrainsClosingWindow : Prop :=
  (∀ (s : State) (m : Mop),
    (removeMop m s).oq.mops = s.oq.mops.filter (fun x => x.id ≠ m.id)
      ∧ (removeMop m s).oq.nextId = s.oq.nextId ∧ (removeMop m s).hsp = s.hsp ∧ (removeMop m s).msp = s.msp
      ∧ (removeMop m s).fu.log = s.fu.log ∧ (removeMop m s).fu.lost = s.fu.lost
      ∧ (removeMop m s).fu.haltedSet = s.fu.haltedSet ∧ (removeMop m s).fu.enables = s.fu.enables
      ∧ (removeMop m s).fu.notices.windowHalted = s.fu.notices.windowHalted
      ∧ (removeMop m s).mgp = s.mgp ∧ (removeMop m s).csN = s.csN ∧ (removeMop m s).resetN = s.resetN
      ∧ (removeMop m s).pending = s.pending
      ∧ (m.window = none →
          (removeMop m s).wt = s.wt ∧ (removeMop m s).st = s.st ∧ (removeMop m s).fu.closedSet = s.fu.closedSet
            ∧ (removeMop m s).fu.notices.windowClosed = s.fu.notices.windowClosed
            ∧ (removeMop m s).fu.notices.clearDone = s.fu.notices.clearDone))
    ∧ ∀ (s : State) (m : Mop) (i : Fin 16) (g : Byte), m.window = some { index := i, generation := g } →
      (∀ j, j ≠ i → (removeMop m s).window j = s.window j)
      ∧ ((s.window i).state ≠ .closing ∨ 2 ≤ (s.window i).inFlight →
          (removeMop m s).window i = { s.window i with inFlight := (s.window i).inFlight - 1 }
            ∧ (removeMop m s).st = s.st ∧ (removeMop m s).wt.clearAllPending = s.wt.clearAllPending
            ∧ (removeMop m s).fu.closedSet = s.fu.closedSet)
      ∧ ((s.window i).state = .closing → (s.window i).inFlight = 1 → s.wt.clearAllPending = false →
          (removeMop m s).window i
              = { s.window i with
                  state := .staged
                  derived := { rowBytes := 0, span := 0, hostLimit := 0 }
                  inFlight := 0 }
            ∧ (∀ k : Fin 8,
                (removeMop m s).surface k
                  = if k = (s.window i).staged.surface then
                      (s.surface k).map fun d => { d with refCount := d.refCount - 1 }
                    else s.surface k)
            ∧ (removeMop m s).fu.notices.windowClosed = true
            ∧ (removeMop m s).fu.closedSet = s.fu.closedSet ||| BitVec.twoPow 16 i.val)
      ∧ ((s.window i).state = .closing → (s.window i).inFlight = 1 → s.wt.clearAllPending = true →
          (removeMop m s).window i = Window.emptied (s.window i).generation
            ∧ (removeMop m s).fu.closedSet = s.fu.closedSet
            ∧ ((∃ j, j ≠ i ∧ (s.window j).state = .closing) →
                (removeMop m s).wt.clearAllPending = true
                  ∧ ∀ k : Fin 8,
                      (removeMop m s).surface k
                        = if k = (s.window i).staged.surface then
                            (s.surface k).map fun d => { d with refCount := d.refCount - 1 }
                          else s.surface k)
            ∧ ((∀ j, j ≠ i → (s.window j).state ≠ .closing) →
                (removeMop m s).wt.clearAllPending = false ∧ (∀ k : Fin 8, (removeMop m s).surface k = none)
                  ∧ (removeMop m s).fu.notices.clearDone = true))

/-- At a removal the fences whose older MOPs have all left complete together, oldest first: they are the first ones of
the list, the last completed number is that of the youngest of them, and FENCE_DONE is set; with none complete the
last completed number and the flag stay (R106). Marks and serial numbers are the model's (notes/assumptions/5.md). -/
def Obligations.FencesCompleteInOrder : Prop :=
  ∀ (s : State) (m : Mop), s.oq.fences.Pairwise (fun a b => a.mark ≤ b.mark) → FencesSettle s (removeMop m s)

/-! ### Pins -/

/-- The serial link's edges: SM_CS_N falling begins a frame outside reset, rising ends it in any phase with nothing
outside the frame changed, and a rising edge of SM_SCK shifts one bit in, completes the command byte, stores a
parameter byte, or with the last bit does what the command's row does; edges with SM_CS_N high or RESET_N low are
ignored (R147, R148, R150, R162). SM_DO is at high impedance while SM_CS_N is high, while RESET_N is low and in
IDLE, and carries 00h in COMMAND and PARAMETERS (R147, R151, R162, Table 10-2). In IDLE with SM_CS_N low, where a
reset leaves the port, edges of SM_SCK are ignored (R162). An edge at a pin that has that level already changing
nothing and the level of SM_DO as that at the next rising edge of SM_SCK are readings of the model
(notes/assumptions/3.md, 8.md). An edge at a pin that has that level already changing nothing is a reading of the
model (notes/assumptions/3.md). -/
def Obligations.SerialEdgesMoveTheFrame : Prop :=
  ∀ s : State,
    (s.csN = true →
      exec .smCsNFall s
        = .next
            { s with
              csN := false
              mgp :=
                if s.resetN then
                  { phase := .command
                    bitCount := 0
                    shift := 0#8
                    code := none
                    params := []
                    response := [] }
                else s.mgp })
      ∧ (s.csN = false → exec .smCsNFall s = .next s)
      ∧ (s.csN = false →
          exec .smCsNRise s
            = .next
                { s with
                  csN := true
                  mgp :=
                    { phase := .idle
                      bitCount := 0
                      shift := 0#8
                      code := none
                      params := []
                      response := [] } })
      ∧ (s.csN = true → exec .smCsNRise s = .next s)
      ∧ (s.csN = true ∨ s.resetN = false → smDo s = none)
      ∧ (s.csN = false → s.resetN = true →
          (s.mgp.phase = .idle → smDo s = none ∧ ∀ di, exec (.smSckRisingEdge di) s = .next s)
            ∧ (s.mgp.phase = .command ∨ s.mgp.phase = .parameters → smDo s = some false))
      ∧ (s.csN = false →
          ∃ t, execAll [.resetNLow, .resetNRelease] s = .next t ∧ t.mgp.phase = .idle ∧ t.csN = false ∧ smDo t = none
            ∧ ∀ dis : List Bool, execAll (dis.map fun di => .smSckRisingEdge di) t = .next t)
      ∧ ∀ di : Bool,
          (s.csN = true ∨ s.resetN = false → exec (.smSckRisingEdge di) s = .next s)
            ∧ (s.csN = false → s.resetN = true →
                (s.mgp.phase = .command ∨ s.mgp.phase = .parameters → s.mgp.bitCount < 7 →
                  exec (.smSckRisingEdge di) s
                    = .next
                        { s with
                          mgp :=
                            { s.mgp with
                              bitCount := s.mgp.bitCount + 1
                              shift := nextShift s.mgp.shift di } })
                  ∧ (s.mgp.phase = .command → s.mgp.bitCount = 7 → ∀ code, code = nextShift s.mgp.shift di →
                      (paramCount code = 0 → exec (.smSckRisingEdge di) s = exec (decodeFrame code []) s)
                        ∧ (0 < paramCount code →
                            exec (.smSckRisingEdge di) s
                              = .next
                                  { s with
                                    mgp :=
                                      { phase := .parameters
                                        bitCount := 0
                                        shift := 0#8
                                        code := some code
                                        params := []
                                        response := [] } }))
                  ∧ (s.mgp.phase = .parameters → s.mgp.bitCount = 7 → ∀ code params, s.mgp.code = some code →
                      params = s.mgp.params ++ [nextShift s.mgp.shift di] →
                      (params.length = paramCount code →
                        exec (.smSckRisingEdge di) s = exec (decodeFrame code params) s)
                        ∧ (params.length < paramCount code →
                            exec (.smSckRisingEdge di) s
                              = .next
                                  { s with
                                    mgp :=
                                      { s.mgp with
                                        bitCount := 0
                                        shift := 0#8
                                        params := params } })))

/-- RESET_N going low gives every block its reset values and keeps what the outside holds; its release changes the pin
alone; the two together lead back to the reset state (R14, R37, R109, R124, R133, R134, R146, R162). The serial
numbers, clock and records at 0 and the outside's pins are the model's choice (notes/assumptions/1.md, 5.md, 6.md,
9.md). -/
def Obligations.ResetRestoresEveryBlock : Prop :=
  ∀ s : State,
    (∃ t, exec .resetNLow s = .next t
      ∧ (∀ k : Fin 8, t.surface k = none)
      ∧ (∀ i : Fin 16, t.window i = Window.emptied 0#8) ∧ t.wt.clearAllPending = false
      ∧ t.oq = { mops := [], nextId := 0, fences := [], nextFence := 0#8, lastFence := none }
      ∧ t.hsp = { request := s.hsp.request, entries := [], nextId := 0, lastResponse := none }
      ∧ (∀ k : Fin 8, t.tag k = .free) ∧ t.msp.timeout = 64#8 ∧ t.msp.clock = 0 ∧ t.msp.lastCommand = none
      ∧ t.fu
          = { log := []
              lost := 0
              notices := { fenceDone := false, windowClosed := false, windowHalted := false, clearDone := false }
              closedSet := 0#16
              haltedSet := 0#16
              enables :=
                { fault := true
                  fenceDone := false
                  windowClosed := false
                  windowHalted := false
                  clearDone := false } }
      ∧ t.mgp
          = { phase := .idle
              bitCount := 0
              shift := 0#8
              code := none
              params := []
              response := [] }
      ∧ t.csN = s.csN ∧ t.resetN = false ∧ t.pending = s.pending)
      ∧ exec .resetNRelease s = .next { s with resetN := true }
      ∧ (s.csN = true → s.hsp.request = none → s.pending = [] →
          execAll [.resetNLow, .resetNRelease] s = .next State.reset)

/-- ATTN_N is low exactly while the log holds a record with FAULT enabled or an enabled notice flag is set (R145). -/
def Obligations.AttentionFollowsItsConditions : Prop :=
  ∀ s : State, s.resetN = true →
    (attnN s = false ↔
      (s.fu.log ≠ [] ∧ s.fu.enables.fault = true)
        ∨ (s.fu.notices.fenceDone = true ∧ s.fu.enables.fenceDone = true)
        ∨ (s.fu.notices.windowClosed = true ∧ s.fu.enables.windowClosed = true)
        ∨ (s.fu.notices.windowHalted = true ∧ s.fu.enables.windowHalted = true)
        ∨ (s.fu.notices.clearDone = true ∧ s.fu.enables.clearDone = true))

/-! ### Whole-machine rules -/

/-- Management traffic moves no pixel data: no management command and no edge of the serial link changes a MOP of the
order queue, the response queue, the presented access or the memory command last sent. -/
def Obligations.ManagementMovesNoPixelData : Prop :=
  ∀ (c : Instr) (s t : State),
    (encodeFrame c).isSome = true ∨ c = .smCsNFall ∨ c = .smCsNRise ∨ (∃ di, c = .smSckRisingEdge di) →
    exec c s = .next t →
    t.oq.mops = s.oq.mops ∧ t.oq.nextId = s.oq.nextId ∧ t.hsp = s.hsp ∧ t.msp.lastCommand = s.msp.lastCommand

/-- In every step but one that takes RESET_N_LOW, the idle step among them, a window's generation changes only when
the window passes from STAGED to LIVE, and then by 1; and the geometry of a surface whose count is not 0 stays for
as long as the entry is DEFINED (R6, R8, R18). -/
def Obligations.GenerationAndPinnedGeometryAreStable : Prop :=
  ∀ s t : State, s.pending.head? ≠ some .resetNLow → step s = .next t →
    (∀ i : Fin 16,
      (t.window i).generation = (s.window i).generation
        ∨ ((s.window i).state = .staged ∧ (t.window i).state = .live
            ∧ (t.window i).generation = (s.window i).generation + 1#8))
      ∧ ∀ (k : Fin 8) (d d' : Surface), s.surface k = some d → t.surface k = some d' → d.refCount ≠ 0 →
          { d' with refCount := d.refCount } = d

/-! ### Invariants that every step keeps -/

/-- The reset state is sound in every respect. -/
def Obligations.ResetStateIsSound : Prop :=
  WithinCapacity State.reset ∧ CountersInRange State.reset ∧ FlagsMatchSets State.reset ∧ SurfacesSound State.reset
    ∧ WindowsSound State.reset ∧ RangesDisjoint State.reset ∧ TablesSound State.reset ∧ QueueSound State.reset
    ∧ ReadsSound State.reset ∧ OrderSound State.reset ∧ FencesSound State.reset ∧ BytesSound State.reset
    ∧ FrameSound State.reset ∧ HeldInReset State.reset

/-- No step makes a queue, list, log or counter exceed its bound, or parts a notice flag from its set (R19, R89, R105,
R129, R136, R141). -/
def Obligations.StepKeepsCapacitiesAndCounters : Prop :=
  ∀ s t : State, step s = .next t →
    (WithinCapacity s → WithinCapacity t) ∧ (CountersInRange s → CountersInRange t)
      ∧ (FlagsMatchSets s → FlagsMatchSets t)

/-- Every step keeps the fields of every surface and window in the ranges of their state (R4, R5, R15, R17, R29). -/
def Obligations.StepKeepsDescriptorsSound : Prop :=
  ∀ s t : State, step s = .next t → (SurfacesSound s → SurfacesSound t) ∧ (WindowsSound s → WindowsSound t)

/-- Every step keeps the host ranges of LIVE and HALTED windows apart (R26). -/
def Obligations.StepKeepsOpenRangesDisjoint : Prop :=
  ∀ s t : State, RangesDisjoint s → step s = .next t → RangesDisjoint t

/-- Every step keeps each surface's reference count equal to the number of windows that hold it, and clear-all pending
only while some window is CLOSING and none is STAGED, LIVE or HALTED (R7, R35). -/
def Obligations.StepKeepsReferenceCountsExact : Prop :=
  ∀ s t : State, TablesSound s → step s = .next t → TablesSound t

/-- Every step keeps the queue in creation order, each in-flight count equal to the MOPs that carry the window's tag,
and each tag that of an open or closing window in its current generation (R20, R89). -/
def Obligations.StepKeepsInFlightCountsExact : Prop :=
  ∀ s t : State, QueueSound s → step s = .next t → QueueSound t

/-- Every step keeps tags, MOP states and response queue entries in agreement: a tag is OUTSTANDING exactly while its
MOP holds it, and an entry waits on exactly the READ MOPs linked to it (R82, R91, R113, R129). -/
def Obligations.StepKeepsTagsAndEntriesExact : Prop :=
  ∀ s t : State, ReadsSound s → step s = .next t → ReadsSound t

/-- Every step keeps the ordering law: writes are issued in creation order, and no command is issued past an older
overlapping unissued write or a write past an older overlapping unissued read (R93, R94). -/
def Obligations.StepKeepsOrderingLaw : Prop :=
  ∀ s t : State, TagsSound s → OrderSound s → step s = .next t → OrderSound t

/-- Every step keeps each pending fence behind an older MOP, fences in placement order, and their numbers the last
ones given out (R105, R106). Marks and serial numbers are the model's (notes/assumptions/5.md). -/
def Obligations.StepKeepsFencesSound : Prop :=
  ∀ s t : State, CreationOrder s → FencesSound s → step s = .next t → CreationOrder t ∧ FencesSound t

/-- Every step keeps each MOP's mask, block and data in shape: a block address, at least one byte, no data outside the
mask, and a pixel list that is the mask (R60, R67, R90). Data held as 0 outside the mask is the model's reading
(notes/assumptions/11.md). -/
def Obligations.StepKeepsMopBytesSound : Prop :=
  ∀ s t : State, BytesSound s → step s = .next t → BytesSound t

/-- Every step keeps the frame receive state fit for its phase, IDLE while SM_CS_N is high, and every block at its
reset values while RESET_N is low (R14, R37, R109, R124, R133, R146, R148, R162). -/
def Obligations.StepKeepsFrameAndResetHold : Prop :=
  ∀ s t : State, step s = .next t → (FrameSound s → FrameSound t) ∧ (HeldInReset s → HeldInReset t)

end
end

