-- ==== Sys2Proof/Laws/Operands.lean ====
section
/-! SUPPORT. What the cut of an access at block boundaries can do, said once. -/

namespace Sys2Proof.Machine

/-- The cut at block boundaries of a run in ascending address: blocks in ascending order, one for every block that
holds an item, each with exactly the items of its block, in order, and at least one (R49). -/
theorem groupByBlock_sorted {α : Type} : ∀ {l : List (Nat × α)}, l.Pairwise (fun x y => x.1 ≤ y.1) →
    (groupByBlock l).Pairwise (fun g h => g.1 < h.1)
      ∧ (∀ x ∈ l, ∃ g ∈ groupByBlock l, g.1 = x.1 / 64)
      ∧ ∀ g ∈ groupByBlock l, g.2 = l.filter (fun x => x.1 / 64 = g.1) ∧ g.2 ≠ []
  | [], _ => ⟨List.Pairwise.nil, by simp, by simp [groupByBlock]⟩
  | x :: l, h => by
    rw [List.pairwise_cons] at h
    obtain ⟨hp, hx, hg⟩ := groupByBlock_sorted h.2
    have hmem : ∀ g ∈ groupByBlock l, ∃ y ∈ l, g.1 = y.1 / 64 := by
      intro g hm
      obtain ⟨e, ne⟩ := hg g hm
      obtain ⟨y, hy⟩ := List.exists_mem_of_ne_nil _ ne
      rw [e, List.mem_filter] at hy
      exact ⟨y, hy.1, (of_decide_eq_true hy.2).symm⟩
    unfold groupByBlock
    cases hgl : groupByBlock l with
    | nil =>
      have hl : l = [] := by
        cases l with
        | nil => rfl
        | cons y t => obtain ⟨g, hm, -⟩ := hx y (by simp); rw [hgl] at hm; cases hm
      subst hl
      refine ⟨by simp, by simp, ?_⟩
      simp
    | cons g gs =>
      rw [hgl] at hp hx hg hmem
      rw [List.pairwise_cons] at hp
      have hge : ∀ h' ∈ g :: gs, x.1 / 64 ≤ h'.1 := by
        intro h' hm
        obtain ⟨y, hy, e⟩ := hmem h' hm
        rw [e]; exact Nat.div_le_div_right (h.1 y hy)
      by_cases he : x.1 / 64 = g.1
      · simp only [he, if_true]
        refine ⟨List.pairwise_cons.2 ⟨hp.1, hp.2⟩, ?_, ?_⟩
        · intro y hy
          rw [List.mem_cons] at hy
          obtain rfl | hy := hy
          · exact ⟨_, List.mem_cons_self, he.symm⟩
          · obtain ⟨h', hm, e⟩ := hx y hy
            rw [List.mem_cons] at hm
            obtain rfl | hm := hm
            · exact ⟨_, List.mem_cons_self, e⟩
            · exact ⟨h', by simp [hm], e⟩
        · intro h' hm
          rw [List.mem_cons] at hm
          obtain rfl | hm := hm
          · refine ⟨?_, by simp⟩
            simp [he, (hg g (by simp)).1]
          · have := hg h' (by simp [hm])
            refine ⟨?_, this.2⟩
            have hlt := hp.1 h' hm
            rw [List.filter_cons_of_neg (by simp; omega)]; exact this.1
      · simp only [he, if_false]
        have hlt : ∀ h' ∈ g :: gs, x.1 / 64 < h'.1 := by
          intro h' hm
          have h1 := hge g (by simp)
          rw [List.mem_cons] at hm
          obtain rfl | hm := hm
          · omega
          · have := hp.1 h' hm; omega
        refine ⟨List.pairwise_cons.2 ⟨hlt, List.pairwise_cons.2 hp⟩, ?_, ?_⟩
        · intro y hy
          rw [List.mem_cons] at hy
          obtain rfl | hy := hy
          · exact ⟨_, List.mem_cons_self, rfl⟩
          · obtain ⟨h', hm, e⟩ := hx y hy
            exact ⟨h', List.mem_cons_of_mem _ hm, e⟩
        · intro h' hm
          rw [List.mem_cons] at hm
          obtain rfl | hm := hm
          · refine ⟨?_, by simp⟩
            have : l.filter (fun y => y.1 / 64 = x.1 / 64) = [] := by
              rw [List.filter_eq_nil_iff]
              intro y hy
              obtain ⟨h', hm, e⟩ := hx y hy
              have := hlt h' hm
              simp; omega
            simp [this]
          · have := hg h' hm
            refine ⟨?_, this.2⟩
            have := hlt h' hm
            rw [List.filter_cons_of_neg (by simp; omega)]; exact (hg h' hm).1

/-- A byte mask holds exactly its offsets (R49). -/
theorem maskOf_getLsbD : ∀ (l : List Nat) (k : Nat), k < 64 → ((maskOf l).getLsbD k = true ↔ k ∈ l)
  | [], k, _ => by simp [maskOf]
  | j :: l, k, hk => by
    simp only [maskOf, BitVec.getLsbD_or, Bool.or_eq_true, maskOf_getLsbD l k hk, List.mem_cons]
    apply or_congr _ Iff.rfl
    simp only [BitVec.getLsbD_shiftLeft, BitVec.getLsbD_one]
    simp; omega

end Sys2Proof.Machine
end

