-- ==== Sys2Proof/Laws/State.lean ====
section
/-! SUPPORT. One lemma per field of State per named update, and the reads of the tables after an update. -/

namespace Sys2Proof.Machine

/-! ### withSurface -/

@[simp] theorem withSurface_wt (s : State) (k : Fin 8) (d : Option Surface) :
    (s.withSurface k d).wt = s.wt := rfl

@[simp] theorem withSurface_oq (s : State) (k : Fin 8) (d : Option Surface) :
    (s.withSurface k d).oq = s.oq := rfl

@[simp] theorem withSurface_hsp (s : State) (k : Fin 8) (d : Option Surface) :
    (s.withSurface k d).hsp = s.hsp := rfl

@[simp] theorem withSurface_msp (s : State) (k : Fin 8) (d : Option Surface) :
    (s.withSurface k d).msp = s.msp := rfl

@[simp] theorem withSurface_fu (s : State) (k : Fin 8) (d : Option Surface) :
    (s.withSurface k d).fu = s.fu := rfl

@[simp] theorem withSurface_mgp (s : State) (k : Fin 8) (d : Option Surface) :
    (s.withSurface k d).mgp = s.mgp := rfl

@[simp] theorem withSurface_csN (s : State) (k : Fin 8) (d : Option Surface) :
    (s.withSurface k d).csN = s.csN := rfl

@[simp] theorem withSurface_resetN (s : State) (k : Fin 8) (d : Option Surface) :
    (s.withSurface k d).resetN = s.resetN := rfl

@[simp] theorem withSurface_pending (s : State) (k : Fin 8) (d : Option Surface) :
    (s.withSurface k d).pending = s.pending := rfl

/-! ### withWindow -/

@[simp] theorem withWindow_st (s : State) (i : Fin 16) (w : Window) :
    (s.withWindow i w).st = s.st := rfl

@[simp] theorem withWindow_oq (s : State) (i : Fin 16) (w : Window) :
    (s.withWindow i w).oq = s.oq := rfl

@[simp] theorem withWindow_hsp (s : State) (i : Fin 16) (w : Window) :
    (s.withWindow i w).hsp = s.hsp := rfl

@[simp] theorem withWindow_msp (s : State) (i : Fin 16) (w : Window) :
    (s.withWindow i w).msp = s.msp := rfl

@[simp] theorem withWindow_fu (s : State) (i : Fin 16) (w : Window) :
    (s.withWindow i w).fu = s.fu := rfl

@[simp] theorem withWindow_mgp (s : State) (i : Fin 16) (w : Window) :
    (s.withWindow i w).mgp = s.mgp := rfl

@[simp] theorem withWindow_csN (s : State) (i : Fin 16) (w : Window) :
    (s.withWindow i w).csN = s.csN := rfl

@[simp] theorem withWindow_resetN (s : State) (i : Fin 16) (w : Window) :
    (s.withWindow i w).resetN = s.resetN := rfl

@[simp] theorem withWindow_pending (s : State) (i : Fin 16) (w : Window) :
    (s.withWindow i w).pending = s.pending := rfl

/-! ### withFu -/

@[simp] theorem withFu_st (s : State) (fu : FaultUnit) :
    (s.withFu fu).st = s.st := rfl

@[simp] theorem withFu_wt (s : State) (fu : FaultUnit) :
    (s.withFu fu).wt = s.wt := rfl

@[simp] theorem withFu_oq (s : State) (fu : FaultUnit) :
    (s.withFu fu).oq = s.oq := rfl

@[simp] theorem withFu_hsp (s : State) (fu : FaultUnit) :
    (s.withFu fu).hsp = s.hsp := rfl

@[simp] theorem withFu_msp (s : State) (fu : FaultUnit) :
    (s.withFu fu).msp = s.msp := rfl

@[simp] theorem withFu_fu (s : State) (fu : FaultUnit) :
    (s.withFu fu).fu = fu := rfl

@[simp] theorem withFu_mgp (s : State) (fu : FaultUnit) :
    (s.withFu fu).mgp = s.mgp := rfl

@[simp] theorem withFu_csN (s : State) (fu : FaultUnit) :
    (s.withFu fu).csN = s.csN := rfl

@[simp] theorem withFu_resetN (s : State) (fu : FaultUnit) :
    (s.withFu fu).resetN = s.resetN := rfl

@[simp] theorem withFu_pending (s : State) (fu : FaultUnit) :
    (s.withFu fu).pending = s.pending := rfl

/-! ### withTag -/

@[simp] theorem withTag_st (s : State) (t : Fin 8) (x : Tag) :
    (s.withTag t x).st = s.st := rfl

@[simp] theorem withTag_wt (s : State) (t : Fin 8) (x : Tag) :
    (s.withTag t x).wt = s.wt := rfl

@[simp] theorem withTag_oq (s : State) (t : Fin 8) (x : Tag) :
    (s.withTag t x).oq = s.oq := rfl

@[simp] theorem withTag_hsp (s : State) (t : Fin 8) (x : Tag) :
    (s.withTag t x).hsp = s.hsp := rfl

@[simp] theorem withTag_fu (s : State) (t : Fin 8) (x : Tag) :
    (s.withTag t x).fu = s.fu := rfl

@[simp] theorem withTag_mgp (s : State) (t : Fin 8) (x : Tag) :
    (s.withTag t x).mgp = s.mgp := rfl

@[simp] theorem withTag_csN (s : State) (t : Fin 8) (x : Tag) :
    (s.withTag t x).csN = s.csN := rfl

@[simp] theorem withTag_resetN (s : State) (t : Fin 8) (x : Tag) :
    (s.withTag t x).resetN = s.resetN := rfl

@[simp] theorem withTag_pending (s : State) (t : Fin 8) (x : Tag) :
    (s.withTag t x).pending = s.pending := rfl

/-! ### withMops -/

@[simp] theorem withMops_st (s : State) (mops : List Mop) :
    (s.withMops mops).st = s.st := rfl

@[simp] theorem withMops_wt (s : State) (mops : List Mop) :
    (s.withMops mops).wt = s.wt := rfl

@[simp] theorem withMops_oq (s : State) (mops : List Mop) :
    (s.withMops mops).oq = { s.oq with mops := mops } := rfl

@[simp] theorem withMops_hsp (s : State) (mops : List Mop) :
    (s.withMops mops).hsp = s.hsp := rfl

@[simp] theorem withMops_msp (s : State) (mops : List Mop) :
    (s.withMops mops).msp = s.msp := rfl

@[simp] theorem withMops_fu (s : State) (mops : List Mop) :
    (s.withMops mops).fu = s.fu := rfl

@[simp] theorem withMops_mgp (s : State) (mops : List Mop) :
    (s.withMops mops).mgp = s.mgp := rfl

@[simp] theorem withMops_csN (s : State) (mops : List Mop) :
    (s.withMops mops).csN = s.csN := rfl

@[simp] theorem withMops_resetN (s : State) (mops : List Mop) :
    (s.withMops mops).resetN = s.resetN := rfl

@[simp] theorem withMops_pending (s : State) (mops : List Mop) :
    (s.withMops mops).pending = s.pending := rfl

/-! ### withEntries -/

@[simp] theorem withEntries_st (s : State) (es : List Entry) :
    (s.withEntries es).st = s.st := rfl

@[simp] theorem withEntries_wt (s : State) (es : List Entry) :
    (s.withEntries es).wt = s.wt := rfl

@[simp] theorem withEntries_oq (s : State) (es : List Entry) :
    (s.withEntries es).oq = s.oq := rfl

@[simp] theorem withEntries_hsp (s : State) (es : List Entry) :
    (s.withEntries es).hsp = { s.hsp with entries := es } := rfl

@[simp] theorem withEntries_msp (s : State) (es : List Entry) :
    (s.withEntries es).msp = s.msp := rfl

@[simp] theorem withEntries_fu (s : State) (es : List Entry) :
    (s.withEntries es).fu = s.fu := rfl

@[simp] theorem withEntries_mgp (s : State) (es : List Entry) :
    (s.withEntries es).mgp = s.mgp := rfl

@[simp] theorem withEntries_csN (s : State) (es : List Entry) :
    (s.withEntries es).csN = s.csN := rfl

@[simp] theorem withEntries_resetN (s : State) (es : List Entry) :
    (s.withEntries es).resetN = s.resetN := rfl

@[simp] theorem withEntries_pending (s : State) (es : List Entry) :
    (s.withEntries es).pending = s.pending := rfl

/-! ### withFrame -/

@[simp] theorem withFrame_st (s : State) (f : Frame) :
    (s.withFrame f).st = s.st := rfl

@[simp] theorem withFrame_wt (s : State) (f : Frame) :
    (s.withFrame f).wt = s.wt := rfl

@[simp] theorem withFrame_oq (s : State) (f : Frame) :
    (s.withFrame f).oq = s.oq := rfl

@[simp] theorem withFrame_hsp (s : State) (f : Frame) :
    (s.withFrame f).hsp = s.hsp := rfl

@[simp] theorem withFrame_msp (s : State) (f : Frame) :
    (s.withFrame f).msp = s.msp := rfl

@[simp] theorem withFrame_fu (s : State) (f : Frame) :
    (s.withFrame f).fu = s.fu := rfl

@[simp] theorem withFrame_mgp (s : State) (f : Frame) :
    (s.withFrame f).mgp = f := rfl

@[simp] theorem withFrame_csN (s : State) (f : Frame) :
    (s.withFrame f).csN = s.csN := rfl

@[simp] theorem withFrame_resetN (s : State) (f : Frame) :
    (s.withFrame f).resetN = s.resetN := rfl

@[simp] theorem withFrame_pending (s : State) (f : Frame) :
    (s.withFrame f).pending = s.pending := rfl

/-! ### setRequest -/

@[simp] theorem setRequest_st (r : Option Access) (s : State) :
    (setRequest r s).st = s.st := rfl

@[simp] theorem setRequest_wt (r : Option Access) (s : State) :
    (setRequest r s).wt = s.wt := rfl

@[simp] theorem setRequest_oq (r : Option Access) (s : State) :
    (setRequest r s).oq = s.oq := rfl

@[simp] theorem setRequest_msp (r : Option Access) (s : State) :
    (setRequest r s).msp = s.msp := rfl

@[simp] theorem setRequest_fu (r : Option Access) (s : State) :
    (setRequest r s).fu = s.fu := rfl

@[simp] theorem setRequest_mgp (r : Option Access) (s : State) :
    (setRequest r s).mgp = s.mgp := rfl

@[simp] theorem setRequest_csN (r : Option Access) (s : State) :
    (setRequest r s).csN = s.csN := rfl

@[simp] theorem setRequest_resetN (r : Option Access) (s : State) :
    (setRequest r s).resetN = s.resetN := rfl

@[simp] theorem setRequest_pending (r : Option Access) (s : State) :
    (setRequest r s).pending = s.pending := rfl

/-! ### clockTo -/

@[simp] theorem clockTo_st (n : Nat) (s : State) :
    (clockTo n s).st = s.st := rfl

@[simp] theorem clockTo_wt (n : Nat) (s : State) :
    (clockTo n s).wt = s.wt := rfl

@[simp] theorem clockTo_oq (n : Nat) (s : State) :
    (clockTo n s).oq = s.oq := rfl

@[simp] theorem clockTo_hsp (n : Nat) (s : State) :
    (clockTo n s).hsp = s.hsp := rfl

@[simp] theorem clockTo_fu (n : Nat) (s : State) :
    (clockTo n s).fu = s.fu := rfl

@[simp] theorem clockTo_mgp (n : Nat) (s : State) :
    (clockTo n s).mgp = s.mgp := rfl

@[simp] theorem clockTo_csN (n : Nat) (s : State) :
    (clockTo n s).csN = s.csN := rfl

@[simp] theorem clockTo_resetN (n : Nat) (s : State) :
    (clockTo n s).resetN = s.resetN := rfl

@[simp] theorem clockTo_pending (n : Nat) (s : State) :
    (clockTo n s).pending = s.pending := rfl

@[simp] theorem setRequest_hsp (r : Option Access) (s : State) :
    (setRequest r s).hsp = { s.hsp with request := r } := rfl

@[simp] theorem clockTo_msp (n : Nat) (s : State) :
    (clockTo n s).msp = { s.msp with clock := max s.msp.clock n } := rfl

@[simp] theorem withTag_timeout (s : State) (t : Fin 8) (x : Tag) : (s.withTag t x).msp.timeout = s.msp.timeout := rfl

@[simp] theorem withTag_clock (s : State) (t : Fin 8) (x : Tag) : (s.withTag t x).msp.clock = s.msp.clock := rfl

@[simp] theorem withTag_lastCommand (s : State) (t : Fin 8) (x : Tag) :
    (s.withTag t x).msp.lastCommand = s.msp.lastCommand := rfl

@[simp] theorem withWindow_clearAllPending (s : State) (i : Fin 16) (w : Window) :
    (s.withWindow i w).wt.clearAllPending = s.wt.clearAllPending := rfl

/-! ### Reads of the tables after an update -/

@[simp] theorem surface_withSurface_same (s : State) (k : Fin 8) (d : Option Surface) :
    (s.withSurface k d).surface k = d := by
  simp [State.surface, State.withSurface]

theorem surface_withSurface (s : State) (k j : Fin 8) (d : Option Surface) :
    (s.withSurface k d).surface j = if k = j then d else s.surface j := by
  simp [State.surface, State.withSurface, Vector.getElem_set, Fin.ext_iff]

@[simp] theorem surface_withSurface_ne (s : State) {k j : Fin 8} (h : k ≠ j) (d : Option Surface) :
    (s.withSurface k d).surface j = s.surface j := by
  simp [surface_withSurface, h]

@[simp] theorem window_withWindow_same (s : State) (i : Fin 16) (w : Window) : (s.withWindow i w).window i = w := by
  simp [State.window, State.withWindow]

theorem window_withWindow (s : State) (i j : Fin 16) (w : Window) :
    (s.withWindow i w).window j = if i = j then w else s.window j := by
  simp [State.window, State.withWindow, Vector.getElem_set, Fin.ext_iff]

@[simp] theorem window_withWindow_ne (s : State) {i j : Fin 16} (h : i ≠ j) (w : Window) :
    (s.withWindow i w).window j = s.window j := by
  simp [window_withWindow, h]

@[simp] theorem tag_withTag_same (s : State) (t : Fin 8) (x : Tag) : (s.withTag t x).tag t = x := by
  simp [State.tag, State.withTag]

theorem tag_withTag (s : State) (t u : Fin 8) (x : Tag) : (s.withTag t x).tag u = if t = u then x else s.tag u := by
  simp [State.tag, State.withTag, Vector.getElem_set, Fin.ext_iff]

@[simp] theorem tag_withTag_ne (s : State) {t u : Fin 8} (h : t ≠ u) (x : Tag) :
    (s.withTag t x).tag u = s.tag u := by
  simp [tag_withTag, h]

/-! ### Reads of one table after an update of another block -/

@[simp] theorem window_withSurface_other (s : State) (j : Fin 8) (d : Option Surface) (i : Fin 16) :
    (s.withSurface j d).window i = s.window i := rfl

@[simp] theorem window_withFu_other (s : State) (fu : FaultUnit) (i : Fin 16) :
    (s.withFu fu).window i = s.window i := rfl

@[simp] theorem window_withTag_other (s : State) (u : Fin 8) (x : Tag) (i : Fin 16) :
    (s.withTag u x).window i = s.window i := rfl

@[simp] theorem window_withMops_other (s : State) (mops : List Mop) (i : Fin 16) :
    (s.withMops mops).window i = s.window i := rfl

@[simp] theorem window_withEntries_other (s : State) (es : List Entry) (i : Fin 16) :
    (s.withEntries es).window i = s.window i := rfl

@[simp] theorem window_withFrame_other (s : State) (f : Frame) (i : Fin 16) :
    (s.withFrame f).window i = s.window i := rfl

@[simp] theorem window_setRequest_other (r : Option Access) (s : State) (i : Fin 16) :
    (setRequest r s).window i = s.window i := rfl

@[simp] theorem window_clockTo_other (n : Nat) (s : State) (i : Fin 16) :
    (clockTo n s).window i = s.window i := rfl

@[simp] theorem surface_withWindow_other (s : State) (j : Fin 16) (w : Window) (k : Fin 8) :
    (s.withWindow j w).surface k = s.surface k := rfl

@[simp] theorem surface_withFu_other (s : State) (fu : FaultUnit) (k : Fin 8) :
    (s.withFu fu).surface k = s.surface k := rfl

@[simp] theorem surface_withTag_other (s : State) (u : Fin 8) (x : Tag) (k : Fin 8) :
    (s.withTag u x).surface k = s.surface k := rfl

@[simp] theorem surface_withMops_other (s : State) (mops : List Mop) (k : Fin 8) :
    (s.withMops mops).surface k = s.surface k := rfl

@[simp] theorem surface_withEntries_other (s : State) (es : List Entry) (k : Fin 8) :
    (s.withEntries es).surface k = s.surface k := rfl

@[simp] theorem surface_withFrame_other (s : State) (f : Frame) (k : Fin 8) :
    (s.withFrame f).surface k = s.surface k := rfl

@[simp] theorem surface_setRequest_other (r : Option Access) (s : State) (k : Fin 8) :
    (setRequest r s).surface k = s.surface k := rfl

@[simp] theorem surface_clockTo_other (n : Nat) (s : State) (k : Fin 8) :
    (clockTo n s).surface k = s.surface k := rfl

@[simp] theorem tag_withSurface_other (s : State) (j : Fin 8) (d : Option Surface) (t : Fin 8) :
    (s.withSurface j d).tag t = s.tag t := rfl

@[simp] theorem tag_withWindow_other (s : State) (j : Fin 16) (w : Window) (t : Fin 8) :
    (s.withWindow j w).tag t = s.tag t := rfl

@[simp] theorem tag_withFu_other (s : State) (fu : FaultUnit) (t : Fin 8) :
    (s.withFu fu).tag t = s.tag t := rfl

@[simp] theorem tag_withMops_other (s : State) (mops : List Mop) (t : Fin 8) :
    (s.withMops mops).tag t = s.tag t := rfl

@[simp] theorem tag_withEntries_other (s : State) (es : List Entry) (t : Fin 8) :
    (s.withEntries es).tag t = s.tag t := rfl

@[simp] theorem tag_withFrame_other (s : State) (f : Frame) (t : Fin 8) :
    (s.withFrame f).tag t = s.tag t := rfl

@[simp] theorem tag_setRequest_other (r : Option Access) (s : State) (t : Fin 8) :
    (setRequest r s).tag t = s.tag t := rfl

@[simp] theorem tag_clockTo_other (n : Nat) (s : State) (t : Fin 8) :
    (clockTo n s).tag t = s.tag t := rfl

end Sys2Proof.Machine
end

