-- ==== Sys2Proof/Laws/Ops.lean ====
section
/-! SUPPORT. What each shared operation can do, said once: the fields it leaves alone, and the cases of its effect. -/

namespace Sys2Proof.Machine

/-! ### releaseClaim -/

@[simp] theorem releaseClaim_wt (k : Fin 8) (s : State) :
    (releaseClaim k s).wt = s.wt := rfl

@[simp] theorem releaseClaim_oq (k : Fin 8) (s : State) :
    (releaseClaim k s).oq = s.oq := rfl

@[simp] theorem releaseClaim_hsp (k : Fin 8) (s : State) :
    (releaseClaim k s).hsp = s.hsp := rfl

@[simp] theorem releaseClaim_msp (k : Fin 8) (s : State) :
    (releaseClaim k s).msp = s.msp := rfl

@[simp] theorem releaseClaim_fu (k : Fin 8) (s : State) :
    (releaseClaim k s).fu = s.fu := rfl

@[simp] theorem releaseClaim_mgp (k : Fin 8) (s : State) :
    (releaseClaim k s).mgp = s.mgp := rfl

@[simp] theorem releaseClaim_csN (k : Fin 8) (s : State) :
    (releaseClaim k s).csN = s.csN := rfl

@[simp] theorem releaseClaim_resetN (k : Fin 8) (s : State) :
    (releaseClaim k s).resetN = s.resetN := rfl

@[simp] theorem releaseClaim_pending (k : Fin 8) (s : State) :
    (releaseClaim k s).pending = s.pending := rfl

@[simp] theorem releaseClaim_window (k : Fin 8) (s : State) (i : Fin 16) : (releaseClaim k s).window i = s.window i := rfl

/-- A release claim lowers one count and leaves every other entry (R7). -/
theorem releaseClaim_surface (k j : Fin 8) (s : State) :
    (releaseClaim k s).surface j
      = if j = k then (s.surface k).map fun d => { d with refCount := d.refCount - 1 } else s.surface j := by
  by_cases h : j = k
  · subst h; simp [releaseClaim]
  · simp [releaseClaim, h, Ne.symm h]

/-! ### openClaim -/

@[simp] theorem openClaim_wt (k : Fin 8) (s : State) :
    (openClaim k s).wt = s.wt := rfl

@[simp] theorem openClaim_oq (k : Fin 8) (s : State) :
    (openClaim k s).oq = s.oq := rfl

@[simp] theorem openClaim_hsp (k : Fin 8) (s : State) :
    (openClaim k s).hsp = s.hsp := rfl

@[simp] theorem openClaim_msp (k : Fin 8) (s : State) :
    (openClaim k s).msp = s.msp := rfl

@[simp] theorem openClaim_fu (k : Fin 8) (s : State) :
    (openClaim k s).fu = s.fu := rfl

@[simp] theorem openClaim_mgp (k : Fin 8) (s : State) :
    (openClaim k s).mgp = s.mgp := rfl

@[simp] theorem openClaim_csN (k : Fin 8) (s : State) :
    (openClaim k s).csN = s.csN := rfl

@[simp] theorem openClaim_resetN (k : Fin 8) (s : State) :
    (openClaim k s).resetN = s.resetN := rfl

@[simp] theorem openClaim_pending (k : Fin 8) (s : State) :
    (openClaim k s).pending = s.pending := rfl

@[simp] theorem openClaim_window (k : Fin 8) (s : State) (i : Fin 16) : (openClaim k s).window i = s.window i := rfl

/-- An open claim raises one count and leaves every other entry (R7). -/
theorem openClaim_surface (k j : Fin 8) (s : State) :
    (openClaim k s).surface j
      = if j = k then (s.surface k).map fun d => { d with refCount := d.refCount + 1 } else s.surface j := by
  by_cases h : j = k
  · subst h; simp [openClaim]
  · simp [openClaim, h, Ne.symm h]

/-! ### toStaged -/

@[simp] theorem toStaged_oq (i : Fin 16) (s : State) :
    (toStaged i s).oq = s.oq := rfl

@[simp] theorem toStaged_hsp (i : Fin 16) (s : State) :
    (toStaged i s).hsp = s.hsp := rfl

@[simp] theorem toStaged_msp (i : Fin 16) (s : State) :
    (toStaged i s).msp = s.msp := rfl

@[simp] theorem toStaged_mgp (i : Fin 16) (s : State) :
    (toStaged i s).mgp = s.mgp := rfl

@[simp] theorem toStaged_csN (i : Fin 16) (s : State) :
    (toStaged i s).csN = s.csN := rfl

@[simp] theorem toStaged_resetN (i : Fin 16) (s : State) :
    (toStaged i s).resetN = s.resetN := rfl

@[simp] theorem toStaged_pending (i : Fin 16) (s : State) :
    (toStaged i s).pending = s.pending := rfl

@[simp] theorem toStaged_clearAllPending (i : Fin 16) (s : State) :
    (toStaged i s).wt.clearAllPending = s.wt.clearAllPending := rfl

/-- The passage to STAGED changes one window (R28, R29). -/
theorem toStaged_window (i j : Fin 16) (s : State) :
    (toStaged i s).window j
      = if j = i then { s.window i with state := .staged, derived := Derived.zero } else s.window j := by
  by_cases h : j = i
  · subst h; simp [toStaged]
  · simp [toStaged, h, Ne.symm h]

/-- The passage to STAGED releases the window's surface (R7). -/
theorem toStaged_surface (i : Fin 16) (k : Fin 8) (s : State) :
    (toStaged i s).surface k = (releaseClaim (s.window i).staged.surface s).surface k := rfl

@[simp] theorem toStaged_fu (i : Fin 16) (s : State) :
    (toStaged i s).fu = noticeWindowClosed i s.fu := rfl

/-! ### toEmpty -/

@[simp] theorem toEmpty_oq (i : Fin 16) (s : State) :
    (toEmpty i s).oq = s.oq := rfl

@[simp] theorem toEmpty_hsp (i : Fin 16) (s : State) :
    (toEmpty i s).hsp = s.hsp := rfl

@[simp] theorem toEmpty_msp (i : Fin 16) (s : State) :
    (toEmpty i s).msp = s.msp := rfl

@[simp] theorem toEmpty_fu (i : Fin 16) (s : State) :
    (toEmpty i s).fu = s.fu := rfl

@[simp] theorem toEmpty_mgp (i : Fin 16) (s : State) :
    (toEmpty i s).mgp = s.mgp := rfl

@[simp] theorem toEmpty_csN (i : Fin 16) (s : State) :
    (toEmpty i s).csN = s.csN := rfl

@[simp] theorem toEmpty_resetN (i : Fin 16) (s : State) :
    (toEmpty i s).resetN = s.resetN := rfl

@[simp] theorem toEmpty_pending (i : Fin 16) (s : State) :
    (toEmpty i s).pending = s.pending := rfl

@[simp] theorem toEmpty_clearAllPending (i : Fin 16) (s : State) :
    (toEmpty i s).wt.clearAllPending = s.wt.clearAllPending := rfl

/-- The passage to EMPTY changes one window (R29, R34). -/
theorem toEmpty_window (i j : Fin 16) (s : State) :
    (toEmpty i s).window j = if j = i then Window.emptied (s.window i).generation else s.window j := by
  by_cases h : j = i
  · subst h; simp [toEmpty]
  · simp [toEmpty, h, Ne.symm h]

/-- The passage to EMPTY releases the window's surface (R7). -/
theorem toEmpty_surface (i : Fin 16) (k : Fin 8) (s : State) :
    (toEmpty i s).surface k = (releaseClaim (s.window i).staged.surface s).surface k := rfl

/-! ### endClearAll -/

@[simp] theorem endClearAll_oq (s : State) :
    (endClearAll s).oq = s.oq := by
  unfold endClearAll; split <;> rfl

@[simp] theorem endClearAll_hsp (s : State) :
    (endClearAll s).hsp = s.hsp := by
  unfold endClearAll; split <;> rfl

@[simp] theorem endClearAll_msp (s : State) :
    (endClearAll s).msp = s.msp := by
  unfold endClearAll; split <;> rfl

@[simp] theorem endClearAll_mgp (s : State) :
    (endClearAll s).mgp = s.mgp := by
  unfold endClearAll; split <;> rfl

@[simp] theorem endClearAll_csN (s : State) :
    (endClearAll s).csN = s.csN := by
  unfold endClearAll; split <;> rfl

@[simp] theorem endClearAll_resetN (s : State) :
    (endClearAll s).resetN = s.resetN := by
  unfold endClearAll; split <;> rfl

@[simp] theorem endClearAll_pending (s : State) :
    (endClearAll s).pending = s.pending := by
  unfold endClearAll; split <;> rfl

@[simp] theorem endClearAll_windows (s : State) : (endClearAll s).wt.windows = s.wt.windows := by
  unfold endClearAll; split <;> rfl

/-- What the end of a clear-all can do (R35). -/
theorem endClearAll_cases (s : State) :
    (endClearAll s = s ∧ (s.wt.clearAllPending && !anyClosing s.wt) = false)
      ∨ (s.wt.clearAllPending = true ∧ anyClosing s.wt = false
          ∧ endClearAll s
            = { s with
                wt := { s.wt with clearAllPending := false }
                st := Vector.replicate 8 none
                fu := noticeClearDone s.fu }) := by
  unfold endClearAll
  by_cases hp : s.wt.clearAllPending = true
  · by_cases hc : anyClosing s.wt = true
    · left; simp [hp, hc]
    · right; simp only [Bool.not_eq_true] at hc; simp [hp, hc]
  · left; simp only [Bool.not_eq_true] at hp; simp [hp]

/-! ### drain -/

/-- What a drain can do: nothing, the passage to STAGED, or the passage to EMPTY with the end of a clear-all (R29,
R35). -/
theorem drain_cases (i : Fin 16) (s : State) :
    drain i s = s
      ∨ ((s.window i).state = .closing ∧ (s.window i).inFlight = 0 ∧ s.wt.clearAllPending = false
          ∧ drain i s = toStaged i s)
      ∨ ((s.window i).state = .closing ∧ (s.window i).inFlight = 0 ∧ s.wt.clearAllPending = true
          ∧ drain i s = endClearAll (toEmpty i s)) := by
  unfold drain
  split
  · rename_i h
    simp only [Bool.and_eq_true, decide_eq_true_eq] at h
    split
    · rename_i hp; exact .inr (.inr ⟨h.1, h.2, hp, rfl⟩)
    · rename_i hp; exact .inr (.inl ⟨h.1, h.2, by simpa using hp, rfl⟩)
  · exact .inl rfl

/-! ### drain -/

@[simp] theorem drain_oq (i : Fin 16) (s : State) :
    (drain i s).oq = s.oq := by
  obtain h | ⟨-, -, -, h⟩ | ⟨-, -, -, h⟩ := drain_cases i s <;> simp [h]

@[simp] theorem drain_hsp (i : Fin 16) (s : State) :
    (drain i s).hsp = s.hsp := by
  obtain h | ⟨-, -, -, h⟩ | ⟨-, -, -, h⟩ := drain_cases i s <;> simp [h]

@[simp] theorem drain_msp (i : Fin 16) (s : State) :
    (drain i s).msp = s.msp := by
  obtain h | ⟨-, -, -, h⟩ | ⟨-, -, -, h⟩ := drain_cases i s <;> simp [h]

@[simp] theorem drain_mgp (i : Fin 16) (s : State) :
    (drain i s).mgp = s.mgp := by
  obtain h | ⟨-, -, -, h⟩ | ⟨-, -, -, h⟩ := drain_cases i s <;> simp [h]

@[simp] theorem drain_csN (i : Fin 16) (s : State) :
    (drain i s).csN = s.csN := by
  obtain h | ⟨-, -, -, h⟩ | ⟨-, -, -, h⟩ := drain_cases i s <;> simp [h]

@[simp] theorem drain_resetN (i : Fin 16) (s : State) :
    (drain i s).resetN = s.resetN := by
  obtain h | ⟨-, -, -, h⟩ | ⟨-, -, -, h⟩ := drain_cases i s <;> simp [h]

@[simp] theorem drain_pending (i : Fin 16) (s : State) :
    (drain i s).pending = s.pending := by
  obtain h | ⟨-, -, -, h⟩ | ⟨-, -, -, h⟩ := drain_cases i s <;> simp [h]

/-! ### leaveWindow -/

@[simp] theorem leaveWindow_oq (i : Fin 16) (s : State) :
    (leaveWindow i s).oq = s.oq := by
  simp [leaveWindow]

@[simp] theorem leaveWindow_hsp (i : Fin 16) (s : State) :
    (leaveWindow i s).hsp = s.hsp := by
  simp [leaveWindow]

@[simp] theorem leaveWindow_msp (i : Fin 16) (s : State) :
    (leaveWindow i s).msp = s.msp := by
  simp [leaveWindow]

@[simp] theorem leaveWindow_mgp (i : Fin 16) (s : State) :
    (leaveWindow i s).mgp = s.mgp := by
  simp [leaveWindow]

@[simp] theorem leaveWindow_csN (i : Fin 16) (s : State) :
    (leaveWindow i s).csN = s.csN := by
  simp [leaveWindow]

@[simp] theorem leaveWindow_resetN (i : Fin 16) (s : State) :
    (leaveWindow i s).resetN = s.resetN := by
  simp [leaveWindow]

@[simp] theorem leaveWindow_pending (i : Fin 16) (s : State) :
    (leaveWindow i s).pending = s.pending := by
  simp [leaveWindow]

/-! ### leaveTag -/

@[simp] theorem leaveTag_oq (t : Option WindowTag) (s : State) :
    (leaveTag t s).oq = s.oq := by
  cases t <;> simp [leaveTag]

@[simp] theorem leaveTag_hsp (t : Option WindowTag) (s : State) :
    (leaveTag t s).hsp = s.hsp := by
  cases t <;> simp [leaveTag]

@[simp] theorem leaveTag_msp (t : Option WindowTag) (s : State) :
    (leaveTag t s).msp = s.msp := by
  cases t <;> simp [leaveTag]

@[simp] theorem leaveTag_mgp (t : Option WindowTag) (s : State) :
    (leaveTag t s).mgp = s.mgp := by
  cases t <;> simp [leaveTag]

@[simp] theorem leaveTag_csN (t : Option WindowTag) (s : State) :
    (leaveTag t s).csN = s.csN := by
  cases t <;> simp [leaveTag]

@[simp] theorem leaveTag_resetN (t : Option WindowTag) (s : State) :
    (leaveTag t s).resetN = s.resetN := by
  cases t <;> simp [leaveTag]

@[simp] theorem leaveTag_pending (t : Option WindowTag) (s : State) :
    (leaveTag t s).pending = s.pending := by
  cases t <;> simp [leaveTag]

/-! ### completeFences -/

@[simp] theorem completeFences_st (s : State) :
    (completeFences s).st = s.st := by
  unfold completeFences; split <;> rfl

@[simp] theorem completeFences_wt (s : State) :
    (completeFences s).wt = s.wt := by
  unfold completeFences; split <;> rfl

@[simp] theorem completeFences_hsp (s : State) :
    (completeFences s).hsp = s.hsp := by
  unfold completeFences; split <;> rfl

@[simp] theorem completeFences_msp (s : State) :
    (completeFences s).msp = s.msp := by
  unfold completeFences; split <;> rfl

@[simp] theorem completeFences_mgp (s : State) :
    (completeFences s).mgp = s.mgp := by
  unfold completeFences; split <;> rfl

@[simp] theorem completeFences_csN (s : State) :
    (completeFences s).csN = s.csN := by
  unfold completeFences; split <;> rfl

@[simp] theorem completeFences_resetN (s : State) :
    (completeFences s).resetN = s.resetN := by
  unfold completeFences; split <;> rfl

@[simp] theorem completeFences_pending (s : State) :
    (completeFences s).pending = s.pending := by
  unfold completeFences; split <;> rfl

@[simp] theorem completeFences_mops (s : State) : (completeFences s).oq.mops = s.oq.mops := by
  unfold completeFences; split <;> rfl

@[simp] theorem completeFences_nextId (s : State) : (completeFences s).oq.nextId = s.oq.nextId := by
  unfold completeFences; split <;> rfl

@[simp] theorem completeFences_nextFence (s : State) : (completeFences s).oq.nextFence = s.oq.nextFence := by
  unfold completeFences; split <;> rfl

/-- The fences left are those that still wait on an older MOP (R106). -/
theorem completeFences_fences (s : State) :
    (completeFences s).oq.fences = s.oq.fences.filter (fenceWaits s.oq.mops) := by
  unfold completeFences
  split
  · rename_i h
    rw [List.getLast?_eq_none_iff, List.filter_eq_nil_iff] at h
    symm
    rw [List.filter_eq_self]
    intro f hf
    simpa using h f hf
  · rfl

/-- The fault unit after fences complete: FENCE_DONE or no change (R106). -/
theorem completeFences_fu (s : State) :
    (completeFences s).fu = s.fu ∨ (completeFences s).fu = noticeFenceDone s.fu := by
  unfold completeFences; split
  · exact .inl rfl
  · exact .inr rfl

/-! ### removeMop -/

@[simp] theorem removeMop_hsp (m : Mop) (s : State) :
    (removeMop m s).hsp = s.hsp := by
  simp [removeMop]

@[simp] theorem removeMop_msp (m : Mop) (s : State) :
    (removeMop m s).msp = s.msp := by
  simp [removeMop]

@[simp] theorem removeMop_mgp (m : Mop) (s : State) :
    (removeMop m s).mgp = s.mgp := by
  simp [removeMop]

@[simp] theorem removeMop_csN (m : Mop) (s : State) :
    (removeMop m s).csN = s.csN := by
  simp [removeMop]

@[simp] theorem removeMop_resetN (m : Mop) (s : State) :
    (removeMop m s).resetN = s.resetN := by
  simp [removeMop]

@[simp] theorem removeMop_pending (m : Mop) (s : State) :
    (removeMop m s).pending = s.pending := by
  simp [removeMop]

/-- A removal takes one MOP out of the queue (R89, R102). -/
@[simp] theorem removeMop_mops (m : Mop) (s : State) : (removeMop m s).oq.mops = dropMop m.id s.oq.mops := by
  simp [removeMop]

@[simp] theorem removeMop_nextId (m : Mop) (s : State) : (removeMop m s).oq.nextId = s.oq.nextId := by
  simp [removeMop]

@[simp] theorem removeMop_nextFence (m : Mop) (s : State) : (removeMop m s).oq.nextFence = s.oq.nextFence := by
  simp [removeMop]

/-- The fences left after a removal (R106). -/
theorem removeMop_fences (m : Mop) (s : State) :
    (removeMop m s).oq.fences = s.oq.fences.filter (fenceWaits (dropMop m.id s.oq.mops)) := by
  simp [removeMop, completeFences_fences]

/-! ### haltWindow -/

@[simp] theorem haltWindow_st (i : Fin 16) (s : State) :
    (haltWindow i s).st = s.st := by
  simp [haltWindow]

@[simp] theorem haltWindow_msp (i : Fin 16) (s : State) :
    (haltWindow i s).msp = s.msp := by
  simp [haltWindow]

@[simp] theorem haltWindow_mgp (i : Fin 16) (s : State) :
    (haltWindow i s).mgp = s.mgp := by
  simp [haltWindow]

@[simp] theorem haltWindow_csN (i : Fin 16) (s : State) :
    (haltWindow i s).csN = s.csN := by
  simp [haltWindow]

@[simp] theorem haltWindow_resetN (i : Fin 16) (s : State) :
    (haltWindow i s).resetN = s.resetN := by
  simp [haltWindow]

@[simp] theorem haltWindow_pending (i : Fin 16) (s : State) :
    (haltWindow i s).pending = s.pending := by
  simp [haltWindow]

/-- A halt cancels the window's PENDING MOPs (R103). -/
@[simp] theorem haltWindow_mops (i : Fin 16) (s : State) :
    (haltWindow i s).oq.mops = s.oq.mops.filter fun m => !m.cancelledBy i := by
  simp [haltWindow]

@[simp] theorem haltWindow_nextId (i : Fin 16) (s : State) : (haltWindow i s).oq.nextId = s.oq.nextId := by
  simp [haltWindow]

@[simp] theorem haltWindow_clearAllPending (i : Fin 16) (s : State) :
    (haltWindow i s).wt.clearAllPending = s.wt.clearAllPending := by
  simp [haltWindow, State.withWindow]

/-- A halt changes one window (R31). -/
theorem haltWindow_window (i j : Fin 16) (s : State) :
    (haltWindow i s).window j
      = if j = i then (s.window i).afterHalt (s.oq.mops.filter fun m => m.cancelledBy i).length
        else s.window j := by
  by_cases h : j = i
  · subst h; simp [haltWindow, State.window, State.withWindow]
  · have h' : (i : Nat) ≠ j := fun e => h (Fin.ext e.symm)
    simp [haltWindow, State.window, State.withWindow, h, Vector.getElem_set_ne, h']

/-- The entries of the cancelled READ MOPs fail (R85, R103). -/
@[simp] theorem haltWindow_entries (i : Fin 16) (s : State) :
    (haltWindow i s).hsp.entries = failEntries (s.oq.mops.filter fun m => m.cancelledBy i) s.hsp.entries := by
  simp [haltWindow]

/-! ### Faults -/

/-- The window that a fault halts is LIVE with stop-on-fault on, and the fault names it (R138). -/
theorem haltedByFault_some {s : State} {t : Option WindowTag} {i : Fin 16} (h : haltedByFault s t = some i) :
    (∃ g, t = some { index := i, generation := g }) ∧ (s.window i).state = .live
      ∧ (s.window i).staged.stopOnFault = true := by
  unfold haltedByFault at h
  split at h
  · cases h
  · rename_i t'
    split at h
    · rename_i hc
      simp only [Bool.and_eq_true, decide_eq_true_eq] at hc
      cases h
      exact ⟨⟨_, rfl⟩, hc⟩
    · cases h

/-- What the report of a fault can do: a record alone, or a record and a halt (R136, R138). -/
theorem reportFault_cases (r : FaultRecord) (s : State) :
    (haltedByFault s r.window = none
        ∧ reportFault r s = s.withFu (logFault { r with halted := false } s.fu))
      ∨ ∃ i, haltedByFault s r.window = some i
          ∧ reportFault r s = haltWindow i (s.withFu (logFault { r with halted := true } s.fu)) := by
  unfold reportFault
  split
  · rename_i h; exact .inl ⟨h, rfl⟩
  · rename_i i h; exact .inr ⟨i, h, rfl⟩

/-- The log after a fault: one more record, or a lost one (R136). -/
theorem logFault_cases (r : FaultRecord) (fu : FaultUnit) :
    (fu.log.length < Config.logCapacity ∧ logFault r fu = { fu with log := fu.log ++ [r] })
      ∨ (Config.logCapacity ≤ fu.log.length
          ∧ logFault r fu = { fu with lost := min Config.lostMax (fu.lost + 1) }) := by
  unfold logFault
  split
  · rename_i h; exact .inl ⟨h, rfl⟩
  · rename_i h; exact .inr ⟨by omega, rfl⟩

/-! ### reportFault -/

@[simp] theorem reportFault_st (r : FaultRecord) (s : State) :
    (reportFault r s).st = s.st := by
  obtain ⟨-, h⟩ | ⟨i, -, h⟩ := reportFault_cases r s <;> simp [h]

@[simp] theorem reportFault_msp (r : FaultRecord) (s : State) :
    (reportFault r s).msp = s.msp := by
  obtain ⟨-, h⟩ | ⟨i, -, h⟩ := reportFault_cases r s <;> simp [h]

@[simp] theorem reportFault_mgp (r : FaultRecord) (s : State) :
    (reportFault r s).mgp = s.mgp := by
  obtain ⟨-, h⟩ | ⟨i, -, h⟩ := reportFault_cases r s <;> simp [h]

@[simp] theorem reportFault_csN (r : FaultRecord) (s : State) :
    (reportFault r s).csN = s.csN := by
  obtain ⟨-, h⟩ | ⟨i, -, h⟩ := reportFault_cases r s <;> simp [h]

@[simp] theorem reportFault_resetN (r : FaultRecord) (s : State) :
    (reportFault r s).resetN = s.resetN := by
  obtain ⟨-, h⟩ | ⟨i, -, h⟩ := reportFault_cases r s <;> simp [h]

@[simp] theorem reportFault_pending (r : FaultRecord) (s : State) :
    (reportFault r s).pending = s.pending := by
  obtain ⟨-, h⟩ | ⟨i, -, h⟩ := reportFault_cases r s <;> simp [h]

/-! ### The answer of the management port -/

@[simp] theorem answer_st (code : Byte) (params : List Byte) (r : Reply) :
    (answer code params r).st = r.state.st := rfl

@[simp] theorem answer_wt (code : Byte) (params : List Byte) (r : Reply) :
    (answer code params r).wt = r.state.wt := rfl

@[simp] theorem answer_oq (code : Byte) (params : List Byte) (r : Reply) :
    (answer code params r).oq = r.state.oq := rfl

@[simp] theorem answer_hsp (code : Byte) (params : List Byte) (r : Reply) :
    (answer code params r).hsp = r.state.hsp := rfl

@[simp] theorem answer_msp (code : Byte) (params : List Byte) (r : Reply) :
    (answer code params r).msp = r.state.msp := rfl

@[simp] theorem answer_fu (code : Byte) (params : List Byte) (r : Reply) :
    (answer code params r).fu = r.state.fu := rfl

@[simp] theorem answer_resetN (code : Byte) (params : List Byte) (r : Reply) :
    (answer code params r).resetN = r.state.resetN := rfl

@[simp] theorem answer_pending (code : Byte) (params : List Byte) (r : Reply) :
    (answer code params r).pending = r.state.pending := rfl

@[simp] theorem answer_mgp (code : Byte) (params : List Byte) (r : Reply) :
    (answer code params r).mgp = answeredFrame code params r := rfl

@[simp] theorem answer_csN (code : Byte) (params : List Byte) (r : Reply) :
    (answer code params r).csN = false := rfl

/-- Outside reset an event has its effect. -/
theorem unlessReset_of_high {s : State} (h : s.resetN = true) (f : State → State) : unlessReset s f = f s := by
  simp [unlessReset, h]

/-- In reset an event has no effect. -/
theorem unlessReset_of_low {s : State} (h : s.resetN = false) (f : State → State) : unlessReset s f = s := by
  simp [unlessReset, h]

/-! ### Queue edits -/

/-- What a removed serial number leaves (R89). -/
theorem mem_dropMop {id : Nat} {mops : List Mop} {m : Mop} : m ∈ dropMop id mops ↔ m ∈ mops ∧ m.id ≠ id := by
  simp [dropMop]

/-- What an update of one MOP leaves (R90). -/
theorem mem_updateMop {id : Nat} {f : Mop → Mop} {mops : List Mop} {m : Mop} :
    m ∈ updateMop id f mops ↔ ∃ x ∈ mops, m = if x.id = id then f x else x := by
  simp [updateMop, eq_comm]

/-- A MOP found by its serial number is in the queue and has that number. -/
theorem findMop_some {id : Nat} {mops : List Mop} {m : Mop} (h : findMop id mops = some m) : m ∈ mops ∧ m.id = id := by
  unfold findMop at h
  exact ⟨List.mem_of_find?_eq_some h, by simpa using List.find?_some h⟩

/-- The choice of an issue event, when there is one (R96). -/
theorem issueChoice_some {s : State} {m : Mop} {t : Fin 8} (h : issueChoice s = some (m, t)) :
    oldestEligible [] s.oq.mops = some m ∧ lowestFreeTag s.msp.tags = some t := by
  unfold issueChoice at h
  split at h
  · rename_i a b ha hb; cases h; exact ⟨ha, hb⟩
  · cases h

/-- The lowest FREE tag is FREE, and every lower one is not (R114). -/
theorem lowestFreeTag_free {tags : Vector Tag 8} {t : Fin 8} (h : lowestFreeTag tags = some t) : tags[t.val] = .free := by
  unfold lowestFreeTag at h
  simpa using List.find?_some h

/-- The oldest eligible MOP stands in the list behind MOPs none of which is eligible (R96). -/
theorem oldestEligible_some {older mops : List Mop} {m : Mop} (h : oldestEligible older mops = some m) :
    ∃ a b, mops = a ++ m :: b ∧ eligible (older ++ a) m = true := by
  induction mops generalizing older with
  | nil => cases h
  | cons x rest ih =>
    unfold oldestEligible at h
    split at h
    · rename_i he; cases h; exact ⟨[], rest, rfl, by simpa using he⟩
    · obtain ⟨a, b, hr, he⟩ := ih h
      exact ⟨x :: a, b, by simp [hr], by simpa using he⟩

/-! ### Memory side -/

@[simp] theorem issueMop_st (m : Mop) (t : Fin 8) (p : Phase) (s : State) : (issueMop m t p s).st = s.st := rfl

@[simp] theorem issueMop_wt (m : Mop) (t : Fin 8) (p : Phase) (s : State) : (issueMop m t p s).wt = s.wt := rfl

@[simp] theorem issueMop_hsp (m : Mop) (t : Fin 8) (p : Phase) (s : State) : (issueMop m t p s).hsp = s.hsp := rfl

@[simp] theorem issueMop_fu (m : Mop) (t : Fin 8) (p : Phase) (s : State) : (issueMop m t p s).fu = s.fu := rfl

/-- An issue event changes nothing, or issues the chosen command (R96). -/
theorem issueNext_cases (s : State) :
    issueNext s = s
      ∨ ∃ m t p, issueChoice s = some (m, t) ∧ m.nextPhase = some p ∧ issueNext s = issueMop m t p s := by
  unfold issueNext
  split
  · exact .inl rfl
  · rename_i m t h
    split
    · exact .inl rfl
    · rename_i p hp; exact .inr ⟨m, t, p, h, hp, rfl⟩

/-- The expiry of a tag changes nothing, or quarantines the tag and fails its MOP (R117). -/
theorem expireTag_cases (t : Fin 8) (s : State) :
    expireTag t s = s
      ∨ ∃ id p d block, s.tag t = .outstanding id p (some d) block
          ∧ expireTag t s = timeOutMop t id p (s.withTag t (.quarantined p block)) := by
  unfold expireTag
  split
  · rename_i id p d block h; exact .inr ⟨id, p, d, block, h, rfl⟩
  · exact .inl rfl
  · exact .inl rfl
  · exact .inl rfl

@[simp] theorem onLinkedEntry_msp (m : Mop) (f : Entry → Entry) (s : State) : (onLinkedEntry m f s).msp = s.msp := by
  unfold onLinkedEntry; split <;> rfl

@[simp] theorem onLinkedEntry_oq (m : Mop) (f : Entry → Entry) (s : State) : (onLinkedEntry m f s).oq = s.oq := by
  unfold onLinkedEntry; split <;> rfl

@[simp] theorem onLinkedEntry_wt (m : Mop) (f : Entry → Entry) (s : State) : (onLinkedEntry m f s).wt = s.wt := by
  unfold onLinkedEntry; split <;> rfl

@[simp] theorem onLinkedEntry_st (m : Mop) (f : Entry → Entry) (s : State) : (onLinkedEntry m f s).st = s.st := by
  unfold onLinkedEntry; split <;> rfl

@[simp] theorem onLinkedEntry_fu (m : Mop) (f : Entry → Entry) (s : State) : (onLinkedEntry m f s).fu = s.fu := by
  unfold onLinkedEntry; split <;> rfl

/-- What a served response can do to the tags: the tag it names becomes FREE (R114, R119, R120). -/
theorem acceptResponse_tag (t : Fin 8) (st : RespStatus) (data : Block) (s : State) :
    (acceptResponse t st data s).msp = (s.withTag t .free).msp := by
  unfold acceptResponse
  split
  · rename_i h
    have h' : s.msp.tags[t.val] = Tag.free := h
    have e : s.msp.tags.set t.val Tag.free = s.msp.tags := by
      rw [← h']; exact Vector.set_getElem_self _
    simp [State.withTag, e]
  · simp
  · unfold deliver
    split
    · rfl
    · rename_i p _ _ _ _ _ _
      cases st <;> cases p <;> simp [deliverOk, deliverErr, failMop]

end Sys2Proof.Machine
end

