-- ==== Sys2Proof/Laws/PerInstr.lean ====
section
/-! SUPPORT. Laws said of each command as syntax: a management command's frame has as many parameter bytes as Table
10-3 gives its command byte. -/

namespace Sys2Proof.Laws

/-- The frame of a well-formed management command carries the parameter bytes that the port expects for its command
byte (R152, R153). -/
def FrameLength.Statement (i : Instr) : Prop :=
  i.wellFormed = true → ∀ code params, encodeFrame i = some (code, params) → params.length = paramCount code

theorem FrameLength.requestHandshake (r : Option Access) : FrameLength.Statement (.requestHandshake r) := by
  intro _ code params h; cases h

theorem FrameLength.entryAnswered : FrameLength.Statement .entryAnswered := by
  intro _ code params h; cases h

theorem FrameLength.issue : FrameLength.Statement .issue := by
  intro _ code params h; cases h

theorem FrameLength.memoryResponse (t : Fin 8) (st : RespStatus) (data : Block) : FrameLength.Statement (.memoryResponse t st data) := by
  intro _ code params h; cases h

theorem FrameLength.expiry (t : Fin 8) : FrameLength.Statement (.expiry t) := by
  intro _ code params h; cases h

theorem FrameLength.getStatus : FrameLength.Statement .getStatus := by
  intro _ code params h; cases h; rfl

theorem FrameLength.configure (timeout enables : Byte) : FrameLength.Statement (.configure timeout enables) := by
  intro _ code params h; cases h; rfl

theorem FrameLength.ackNotice (mask : Byte) : FrameLength.Statement (.ackNotice mask) := by
  intro _ code params h; cases h; rfl

theorem FrameLength.setSurface (p : SurfaceParams) : FrameLength.Statement (.setSurface p) := by
  intro _ code params h; cases h; rfl

theorem FrameLength.dropSurface (index : Byte) : FrameLength.Statement (.dropSurface index) := by
  intro _ code params h; cases h; rfl

theorem FrameLength.readSurface (index : Byte) : FrameLength.Statement (.readSurface index) := by
  intro _ code params h; cases h; rfl

theorem FrameLength.setWindow (p : WindowParams) : FrameLength.Statement (.setWindow p) := by
  intro _ code params h; cases h; rfl

theorem FrameLength.openWindow (index : Byte) : FrameLength.Statement (.openWindow index) := by
  intro _ code params h; cases h; rfl

theorem FrameLength.closeWindow (index : Byte) : FrameLength.Statement (.closeWindow index) := by
  intro _ code params h; cases h; rfl

theorem FrameLength.resumeWindow (index : Byte) : FrameLength.Statement (.resumeWindow index) := by
  intro _ code params h; cases h; rfl

theorem FrameLength.readWindow (index : Byte) : FrameLength.Statement (.readWindow index) := by
  intro _ code params h; cases h; rfl

theorem FrameLength.fence : FrameLength.Statement .fence := by
  intro _ code params h; cases h; rfl

theorem FrameLength.popFault : FrameLength.Statement .popFault := by
  intro _ code params h; cases h; rfl

theorem FrameLength.linkRecover : FrameLength.Statement .linkRecover := by
  intro _ code params h; cases h; rfl

theorem FrameLength.clearAll : FrameLength.Statement .clearAll := by
  intro _ code params h; cases h; rfl

theorem FrameLength.unknownCommand (code : Byte) : FrameLength.Statement (.unknownCommand code) := by
  intro hw c params h
  cases h
  simp only [Instr.wellFormed, knownCode, Bool.not_eq_true', Option.isSome_eq_false_iff, Option.isNone_iff_eq_none] at hw
  simp [paramCount, hw]

theorem FrameLength.smCsNFall : FrameLength.Statement .smCsNFall := by
  intro _ code params h; cases h

theorem FrameLength.smCsNRise : FrameLength.Statement .smCsNRise := by
  intro _ code params h; cases h

theorem FrameLength.resetNLow : FrameLength.Statement .resetNLow := by
  intro _ code params h; cases h

theorem FrameLength.resetNRelease : FrameLength.Statement .resetNRelease := by
  intro _ code params h; cases h

theorem FrameLength.smSckRisingEdge (di : Bool) : FrameLength.Statement (.smSckRisingEdge di) := by
  intro _ code params h; cases h

end Sys2Proof.Laws
end

