-- ==== Sys2Proof/Tests/Slice0.lean ====
section
/-! SUPPORT. The well-formedness smoke test, a few single steps whose results the spec gives, and for each statement
with hypotheses a witness that meets them. -/

namespace Sys2Proof.Tests

open Sys2Proof.Machine Sys2Proof.Safety Sys2Proof.Claims

/-! ### Well-formedness and frames -/

/-- UNKNOWN_COMMAND with a command byte of Table 10-3 is no event of that row. -/
theorem test_unknown_command_with_known_code_is_ill_formed : (Instr.unknownCommand 0x31#8).wellFormed = false := by
  decide

theorem test_unknown_command_is_well_formed : (Instr.unknownCommand 0xFF#8).wellFormed = true := by decide

/-- No word spells a command: no row of the table has bits. -/
theorem test_no_word_is_a_command : decodeTableWord 32 0x31 = none := rfl

/-- Chapter 11's CONFIGURE frame 11h, 40h, 09h. -/
theorem test_frame_configure : decodeFrame 0x11#8 [0x40#8, 0x09#8] = .configure 64#8 9#8 := by decide

/-- The SET_SURFACE frame of Chapter 11's bring-up, laid out by Table 10-7. -/
theorem test_frame_set_surface :
    decodeFrame 0x20#8
        [0x00#8, 0x02#8, 0x00#8, 0x40#8, 0x00#8, 0x00#8, 0x06#8, 0x40#8, 0x03#8, 0x20#8, 0x01#8, 0xE0#8]
      = .setSurface
          { index := 0#8, format := 2#8, base := 0x00400000#32, pitch := 1600#16, width := 800#16, height := 480#16 } := by
  decide

/-! ### Small states -/

/-- Chapter 11's surface: P16, 800 by 480 (Table 1-6). -/
def surfA : Surface :=
  { format := .p16, base := 0x00400000#32, pitch := 1600#16, width := 800#16, height := 480#16, refCount := 1 }

/-- Staged fields on surface 0 at host base 1000_0000h, origin (100, 50), 64 by 16 (Chapter 11's window 2). -/
def stagedA (k : Kind) : Staged :=
  { Staged.zero with
    kind := k
    hostBase := 0x10000000#32
    originX := 100#16
    originY := 50#16
    width := 64#16
    height := 16#16
    foreground := 0x0000FFFF#32
    stopOnFault := true }

/-- A window in a state with `n` MOPs in flight. -/
def windowA (st : WindowState) (k : Kind) (n : Nat) : Window :=
  { state := st
    generation := 1#8
    staged := stagedA k
    derived := if st = .staged then Derived.zero else deriveFields (stagedA k) .p16
    counters := Counters.zero
    inFlight := n }

/-- The reset state with window 2 and surface 0 in place. -/
def stateA (w : Window) : State := (State.reset.withSurface 0 (some surfA)).withWindow 2 w

/-- A clear-all pending behind a CLOSING window. -/
def clearing : State :=
  { stateA (windowA .closing .expand 1) with
    wt := { (stateA (windowA .closing .expand 1)).wt with clearAllPending := true } }

/-- A pass-through PLAIN_WRITE of byte 0 of block 0, or the window's where a tag is given. -/
def mopA (id : Nat) (t : Option WindowTag) (st : MopState) : Mop :=
  { id := id
    block := 0#32
    mask := 1#64
    content := .plain (blockOf [(0, 0xAB#8)])
    window := t
    hostAddr := 0#32
    state := st }

/-- An RMW_WRITE of one P8 pixel. -/
def rmwA (st : MopState) : Mop := { mopA 0 none st with content := .blend [(0, 8)] 0xFF#32 .p8 }

/-- A READ of byte 0 for entry 0. -/
def readA (st : MopState) : Mop := { mopA 0 none st with content := .read 0 (.bytes [(0, 0)]) }

/-- A state with these MOPs in the queue and the next serial number behind them. -/
def queueA (s : State) (mops : List Mop) : State :=
  { s with oq := { s.oq with mops := mops, nextId := mops.length } }

/-- A response queue entry. -/
def entryA (n : Nat) : Entry := { id := 0, word := 0x12#32, outstanding := n, error := false }

/-- A write and a read of window 2's first word, and a write of address 0 with one byte enabled. -/
def writeA : Access := { write := true, addr := 0x04000000#30, be := 0xF#4, wdata := 0xFFFFFFFF#32 }

def readAccA : Access := { writeA with write := false }

def passA : Access := { write := true, addr := 0#30, be := 1#4, wdata := 0xAB#32 }

/-- Fields that SET_SURFACE takes for surface 7, the last index, with the widest extent of Table 1-6. -/
def surfaceParamsA : SurfaceParams :=
  { index := 7#8, format := 4#8, base := 0xFFF00000#32, pitch := 4096#16, width := 1024#16, height := 256#16 }

/-- Fields that SET_WINDOW takes for window 15, the last index. -/
def windowParamsA : WindowParams :=
  { index := 15#8, kind := 3#8, options := 7#8, surface := 7#8, hostBase := 0xFFFFF000#32, originX := 4095#16
    originY := 4095#16, width := 4096#16, height := 1#16, clipLeft := 0#16, clipTop := 0#16, clipRight := 4095#16
    clipBottom := 4095#16, foreground := 0#32, background := 0#32, key := 0#32, keyMask := 0#32 }

/-- A tag bound to MOP 0. -/
def boundA (p : Phase) : Tag := .outstanding 0 p (some 16384) 0#32

/-- A fault record that names window 2. -/
def recordA : FaultRecord :=
  { kind := .writeError
    phase := none
    window := some { index := 2, generation := 1#8 }
    hostAddr := some 0#32
    block := some 0#32
    tag := some 0
    halted := false
    status := none }

/-! ### Steps whose results the spec gives -/

/-- The state that an outcome answers, or `s` for none. -/
def after (o : Host.Outcome State Fault Refusal) (s : State) : State :=
  match o with
  | .next t => t
  | .fault _ => s
  | .refused _ => s

/-- Table 4-4: the six blends of single channels. -/
theorem test_blend_table_4_4 :
    blendChannel 31 0 8 = 17 ∧ blendChannel 0 31 8 = 14 ∧ blendChannel 63 0 8 = 34 ∧ blendChannel 255 0 1 = 17
      ∧ blendChannel 255 0 14 = 238 ∧ blendChannel 7 7 5 = 7 := by
  decide

/-- Table 1-6: the second surface is accepted and the third refused BAD_ARG. -/
theorem test_extent_check_table_1_6 :
    (checkSurface surfaceParamsA).isSome = true
      ∧ (checkSurface { surfaceParamsA with height := 257#16 }).isSome = false := by
  decide

/-- Chapter 1: pixel (100, 51) of the first surface lies at 0041_3F88h. -/
theorem test_pixel_address_of_chapter_1 : pixelAddr surfA 100 51 = 0x00413F88 := by decide

/-- Table 11-1: OPEN_WINDOW makes window 2 LIVE with generation 1, row bytes 8 and span 128. -/
theorem test_open_window_table_11_1 :
    let s := (State.reset.withSurface 0 (some { surfA with refCount := 0 })).withWindow 2
      { windowA .staged .expand 0 with generation := 0#8 }
    let t := after (exec (.openWindow 2#8) s) s
    (t.window 2).state = .live ∧ (t.window 2).generation = 1#8 ∧ (t.window 2).derived.rowBytes = 8
      ∧ (t.window 2).derived.span = 128 ∧ (t.surface 0).map Surface.refCount = some 1 := by
  decide

/-- Table 11-2: the EXPAND write of FFFF_FFFFh at 1000_0008h makes two MOPs, offsets 8 to 63 and 0 to 7. -/
theorem test_expand_write_table_11_2 :
    (accessMops (stateA (windowA .live .expand 0)) { writeA with addr := 0x04000002#30 }).map
        (fun m => (m.block, m.mask, m.hostAddr))
      = [ (0x00413F80#32, 0xFFFFFFFFFFFFFF00#64, 0x10000008#32),
          (0x00413FC0#32, 0xFF#64, 0x10000008#32) ] := by
  decide

/-- Table 11-3: the 0 bits of 8000_0F01h are masked. -/
theorem test_expand_write_table_11_3 :
    (accessMops (stateA (windowA .live .expand 0)) { writeA with addr := 0x04000002#30, wdata := 0x80000F01#32 }).map
        (fun m => (m.block, m.mask))
      = [(0x00413F80#32, 0xFF000300#64), (0x00413FC0#32, 0xC0#64)] := by
  decide

/-- R80 at P8: key 5 with key mask 7 matches the pixel 0Dh and not 0Bh. -/
theorem test_match_bit : matchBit .p8 5#32 7#32 0x0D#32 = true ∧ matchBit .p8 5#32 7#32 0x0B#32 = false := by decide

/-- R136: with eight records in the log a fault raises the lost counter, which stays at 255. -/
theorem test_full_log_loses_faults :
    let fu := { FaultUnit.reset with log := List.replicate 8 recordA, lost := 255 }
    (logFault recordA fu).log.length = 8 ∧ (logFault recordA fu).lost = 255 := by
  decide

/-- R146: after reset FAULT alone is enabled and ATTN_N is high. -/
theorem test_attention_after_reset : attnN State.reset = true ∧ enablesByte State.reset.fu.enables = 0x01#8 := by decide

/-- R119: a late response frees its tag with one record. -/
theorem test_late_response :
    let s := State.reset.withTag 3 (.quarantined .write 0x40#32)
    let t := after (exec (.memoryResponse 3 .ok (blockOf [])) s) s
    t.tag 3 = .free ∧ t.fu.log.map FaultRecord.kind = [.lateResponse] := by
  decide

/-! ### Witnesses: the queue, the clock and frames -/

/-- A PLAIN_WRITE issued with tag 0 whose timer is due at the first core clock period. -/
def dueA : State := (queueA State.reset [mopA 0 none (.issued 0)]).withTag 0 (.outstanding 0 .write (some 1) 0#32)

theorem dueA_tags : TagsSound dueA := by
  refine ⟨by unfold CreationOrder; decide, ?_, ?_, ?_⟩
  · intro m hm
    rw [(by decide : dueA.oq.mops = [mopA 0 none (.issued 0)]), List.mem_singleton] at hm
    subst hm
    trivial
  · intro t id p d b h
    by_cases h0 : t = 0
    · subst h0
      rw [(by decide : dueA.tag 0 = .outstanding 0 .write (some 1) 0#32)] at h
      cases h
      exact ⟨_, List.mem_cons_self, rfl, rfl, rfl, rfl⟩
    · rw [(by decide : ∀ t, t ≠ 0 → dueA.tag t = Tag.free) t h0] at h
      cases h
  · intro m hm t ht
    rw [(by decide : dueA.oq.mops = [mopA 0 none (.issued 0)]), List.mem_singleton] at hm
    subst hm
    cases ht
    exact ⟨.write, some 1, by decide⟩

theorem witness_IdleStepExpiresDueTimers :
    State.reset.pending = [] ∧ { State.reset with resetN := false }.resetN = false ∧ State.reset.resetN = true
      ∧ (∀ k : Fin 8, ∀ id p d block, State.reset.tag k = .outstanding id p (some d) block →
          State.reset.msp.clock + 1 < d)
      ∧ dueA.pending = [] ∧ dueA.resetN = true ∧ TagsSound dueA ∧ Due dueA 0 = true
      ∧ [((0 : Fin 8), mopA 0 none (.issued 0), Phase.write)].Pairwise (fun x y => x.1 < y.1)
      ∧ ∀ k m p, (k, m, p) ∈ [((0 : Fin 8), mopA 0 none (.issued 0), Phase.write)] ↔
          m ∈ dueA.oq.mops ∧ ∃ d, dueA.tag k = .outstanding m.id p (some d) m.block ∧ d ≤ dueA.msp.clock + 1 := by
  refine ⟨by decide, by decide, by decide, ?_, by decide, by decide, dueA_tags, by decide, by simp, ?_⟩
  · intro k id p d block h
    rw [(by decide : ∀ k, State.reset.tag k = Tag.free) k] at h
    cases h
  · intro k m p
    rw [(by decide : dueA.oq.mops = [mopA 0 none (.issued 0)]), List.mem_singleton, List.mem_singleton]
    constructor
    · intro h
      cases h
      exact ⟨rfl, 1, by decide, by decide⟩
    · rintro ⟨rfl, d, h, -⟩
      by_cases h0 : k = 0
      · subst h0
        rw [(by decide : dueA.tag 0 = .outstanding 0 .write (some 1) 0#32)] at h
        cases h
        rfl
      · rw [(by decide : ∀ t, t ≠ 0 → dueA.tag t = Tag.free) k h0] at h
        cases h

/-- The idle step of that state: the tag QUARANTINED, the MOP removed, TIMEOUT logged (R101, R117). -/
theorem test_idle_step_times_out :
    let t := after (step dueA) dueA
    t.tag 0 = .quarantined .write 0#32 ∧ t.oq.mops = [] ∧ t.fu.log.map FaultRecord.kind = [.timeout] := by
  decide

theorem witness_FrameDecodeInvertsEncode :
    (Instr.setSurface surfaceParamsA).wellFormed = true
      ∧ encodeFrame (.setSurface surfaceParamsA) = some (0x20#8, surfaceParamBytes surfaceParamsA) := by
  decide

theorem witness_SerialFrameEqualsCommandRow :
    (Instr.openWindow 15#8).wellFormed = true ∧ encodeFrame (.openWindow 15#8) = some (0x31#8, [15#8])
      ∧ State.reset.resetN = true ∧ State.reset.csN = true := by
  decide

theorem witness_ResponseBytesShiftOut :
    let s := answered State.reset 0x40#8 [] [0x00#8, 0x07#8]
    let t := { s with mgp := { s.mgp with phase := .trailing, response := [] } }
    s.resetN = true ∧ s.csN = false ∧ s.mgp.bitCount = 0 ∧ (List.replicate 8 true).length = 8
      ∧ s.mgp.phase = .response ∧ s.mgp.response = 0x00#8 :: [0x07#8]
      ∧ t.resetN = true ∧ t.csN = false ∧ t.mgp.bitCount = 0 ∧ t.mgp.phase = .trailing := by
  decide

theorem witness_ReadBackRestoresDescriptors : SurfaceSound surfA ∧ StagedSound (windowA .live .direct 0).staged := by
  constructor
  · unfold SurfaceSound; decide
  · unfold StagedSound; decide

/-! ### Witnesses: management commands -/

/-- GET_STATUS, CONFIGURE, ACK_NOTICE and LINK_RECOVER ask only that RESET_N is high. -/
theorem witness_GetStatusReportsEveryBlock : State.reset.resetN = true := by decide

theorem witness_ConfigureSetsTimeoutAndEnables : State.reset.resetN = true := by decide

theorem witness_AckNoticeClearsMaskedNotices : State.reset.resetN = true := by decide

theorem witness_LinkRecoverFreesQuarantinedTags : State.reset.resetN = true := by decide

theorem witness_SetSurfaceDefinesOrRefuses :
    (clearing.resetN = true ∧ clearing.wt.clearAllPending = true)
      ∧ (State.reset.wt.clearAllPending = false ∧ ¬ SurfaceFieldsValid { surfaceParamsA with height := 257#16 })
      ∧ (SurfaceFieldsValid { surfaceParamsA with index := 0#8 }
          ∧ (stateA (windowA .live .expand 0)).wt.clearAllPending = false
          ∧ 1 ≤ refCountOf ((stateA (windowA .live .expand 0)).surface 0))
      ∧ (SurfaceFieldsValid surfaceParamsA ∧ (7 : Fin 8).val = surfaceParamsA.index.toNat
          ∧ refCountOf (State.reset.surface 7) = 0 ∧ PixelFormat.p32.bpp = surfaceParamsA.format.toNat) := by
  unfold SurfaceFieldsValid; decide

theorem witness_DropAndReadSurfaceAnswer :
    clearing.wt.clearAllPending = true ∧ 7 < (8#8).toNat ∧ State.reset.wt.clearAllPending = false
      ∧ (7 : Fin 8).val = (7#8).toNat ∧ State.reset.surface 7 = none
      ∧ (stateA (windowA .live .expand 0)).surface 0 = some surfA ∧ 1 ≤ surfA.refCount
      ∧ (State.reset.withSurface 7 (some { surfA with refCount := 0 })).surface 7 = some { surfA with refCount := 0 } := by
  decide

theorem witness_SetWindowStagesOrRefuses :
    clearing.wt.clearAllPending = true ∧ State.reset.wt.clearAllPending = false
      ∧ ¬ WindowFieldsValid { windowParamsA with options := 8#8 } ∧ WindowFieldsValid windowParamsA
      ∧ (15 : Fin 16).val = windowParamsA.index.toNat
      ∧ ((State.reset.withWindow 15 (windowA .closing .expand 1)).window 15).state = .closing
      ∧ (State.reset.window 15).state = .empty ∧ Kind.matchKey.code = windowParamsA.kind
      ∧ (7 : Fin 8).val = windowParamsA.surface.toNat := by
  unfold WindowFieldsValid; decide

/-- One state for each answer of OPEN_WINDOW, the range check at its boundary values among them. -/
theorem witness_OpenWindowOpensOrRefuses :
    clearing.wt.clearAllPending = true ∧ 15 < (16#8).toNat ∧ (State.reset.window 15).state ≠ .staged
      ∧ (State.reset.withWindow 2 (windowA .staged .expand 0)).surface (stagedA .expand).surface = none
      ∧ ((stateA (windowA .staged .expand 0)).window 2).state = .staged
      ∧ (stateA (windowA .staged .expand 0)).surface 0 = some surfA
      ∧ rowBytesOfTable .expand (stagedA .expand).width.toNat surfA.format.bpp = 8
      ∧ (0xFFFFFFFF < 0xFFFFF000 + rowBytesOfTable .direct 4096 4 * 1 - 1
          ∧ 0xFFFFF000 + rowBytesOfTable .direct 1024 4 * 1 - 1 ≤ 0xFFFFFFFF)
      ∧ (16777216 < rowBytesOfTable .direct 4096 4 * 1025 ∧ rowBytesOfTable .direct 4096 4 * 1024 ≤ 16777216)
      ∧ (Open (((stateA (windowA .staged .expand 0)).withWindow 3 (windowA .halted .expand 0)).window 3)
          ∧ (stagedA .expand).hostBase.toNat ≤ (windowA .halted .expand 0).derived.hostLimit)
      ∧ ∀ j, j ≠ 2 → ¬ Open ((stateA (windowA .staged .expand 0)).window j) := by
  unfold Open; decide

theorem witness_CloseWindowClosesOrRefuses :
    clearing.wt.clearAllPending = true ∧ 15 < (16#8).toNat ∧ ¬ Open (State.reset.window 15)
      ∧ (Open ((stateA (windowA .halted .expand 1)).window 2)
          ∧ ((stateA (windowA .halted .expand 1)).window 2).inFlight ≠ 0)
      ∧ (Open ((stateA (windowA .live .expand 0)).window 2)
          ∧ ((stateA (windowA .live .expand 0)).window 2).inFlight = 0) := by
  unfold Open; decide

theorem witness_ResumeWindowRevivesOrRefuses :
    clearing.wt.clearAllPending = true ∧ 15 < (16#8).toNat ∧ (State.reset.window 15).state ≠ .halted
      ∧ ((stateA (windowA .halted .expand 0)).window 2).state = .halted := by
  decide

theorem witness_ReadWindowReportsDescriptor :
    State.reset.resetN = true ∧ 15 < (16#8).toNat ∧ (15 : Fin 16).val = (15#8).toNat := by
  decide

theorem witness_FencePlacesCompletesOrRefuses :
    4 ≤ (List.replicate 4 ({ number := 0#8, mark := 1 } : Fence)).length
      ∧ (State.reset.oq.fences.length < 4 ∧ State.reset.oq.mops = [])
      ∧ (queueA State.reset [mopA 0 none .pending]).oq.mops ≠ [] := by
  decide

theorem witness_PopFaultReturnsOldestRecord :
    State.reset.fu.log = [] ∧ (State.reset.withFu (logFault recordA FaultUnit.reset)).fu.log = recordA :: [] := by
  decide

theorem witness_ClearAllTearsDownTables :
    clearing.wt.clearAllPending = true ∧ State.reset.wt.clearAllPending = false
      ∧ (∀ i : Fin 16, (State.reset.window i).cleared.state ≠ .closing)
      ∧ ((stateA (windowA .live .expand 1)).window 2).cleared.state = .closing := by
  decide

theorem witness_UnknownCommandChangesNothing :
    State.reset.resetN = true
      ∧ 0x00#8 ∉ [0x10#8, 0x11#8, 0x12#8, 0x20#8, 0x21#8, 0x22#8, 0x30#8, 0x31#8, 0x32#8, 0x33#8, 0x34#8, 0x40#8,
          0x50#8, 0x60#8, 0x70#8]
      ∧ 8 ≤ (List.replicate 8 true).length := by
  decide

/-! ### Witnesses: the host side -/

theorem witness_InadmissibleAccessIsHeld :
    { State.reset with resetN := false }.resetN = false
      ∧ ¬ Admitted (queueA State.reset (List.replicate 32 (mopA 0 none .pending))) passA
      ∧ Admitted State.reset passA ∧ hAccept (setRequest (some passA) State.reset) = true := by
  unfold Admitted; decide

/-- R125: an access held behind a full order queue is withdrawn when H_VALID falls; room in the queue raises H_ACCEPT for
one still presented and not for one withdrawn. -/
theorem test_held_access_is_withdrawn :
    let s := queueA State.reset (List.replicate 32 (mopA 0 none .pending))
    let t := after (exec (.requestHandshake (some passA)) s) s
    let u := after (exec (.requestHandshake none) t) t
    t.hsp.request = some passA ∧ u.hsp.request = none ∧ u.oq = s.oq ∧ hAccept { u with oq := OrderQueue.reset } = false
      ∧ hAccept { t with oq := OrderQueue.reset } = true := by
  decide

/-- Nothing matches after reset, and the tail takes no merge in an empty queue. -/
theorem witness_PassThroughWriteCreatesOneMop :
    passA.write = true ∧ MatchesNone State.reset passA ∧ { passA with be := 0#4 }.be = 0#4 ∧ passA.be ≠ 0#4
      ∧ State.reset.oq.mops.length < 32
      ∧ accessMops State.reset passA = [mopA 0 none .pending]
      ∧ ∀ tail, ¬ TailTakes State.reset.oq tail (mopA 0 none .pending) := by
  refine ⟨by decide, ?_, by decide, by decide, by decide, by decide, ?_⟩
  · unfold MatchesNone Covers Open; decide
  · intro tail h
    have := h.1
    cases this

theorem witness_PassThroughReadCreatesMopAndEntry :
    { passA with write := false }.write = false ∧ MatchesNone State.reset { passA with write := false }
      ∧ (List.replicate 31 (mopA 0 none .pending)).length < 32 ∧ (List.replicate 7 (entryA 0)).length < 8 := by
  refine ⟨by decide, ?_, by decide, by decide⟩
  unfold MatchesNone Covers Open; decide

/-- A second pass-through write of byte 0 meets a PENDING tail of the same block. -/
theorem witness_WriteMergesIntoPendingTail :
    let s := queueA State.reset [mopA 0 none .pending]
    s.resetN = true ∧ passA.write = true ∧ MatchesNone s passA ∧ Admitted s passA
      ∧ accessMops s passA = mopA 1 none .pending :: [] ∧ TailTakes s.oq (mopA 0 none .pending) (mopA 1 none .pending)
      ∧ (mopA 0 none .pending).content = .plain (blockOf [(0, 0xAB#8)])
      ∧ (mopA 1 none .pending).content = .plain (blockOf [(0, 0xAB#8)]) := by
  refine ⟨by decide, by decide, ?_, ?_, by decide, ?_, by decide, by decide⟩
  · unfold MatchesNone Covers Open; decide
  · unfold Admitted; decide
  · exact ⟨by decide, ⟨_, rfl⟩, rfl, ⟨_, rfl⟩, rfl, rfl, by decide⟩

theorem witness_RefusedAccessCreatesNoMop :
    (Matches (stateA (windowA .halted .expand 0)) 2 writeA
        ∧ ((stateA (windowA .halted .expand 0)).window 2).state = .halted)
      ∧ (Matches (stateA (windowA .live .expand 0)) 2 readAccA
          ∧ ((stateA (windowA .live .expand 0)).window 2).state = .live
          ∧ ¬ Serves (stagedA .expand).kind readAccA ∧ State.reset.hsp.entries.length < 8) := by
  unfold Matches Covers Open Serves; decide

theorem witness_ServedAccessEntersQueue :
    let s := stateA (windowA .live .direct 0)
    s.resetN = true ∧ Matches s 2 writeA ∧ (s.window 2).state = .live ∧ Serves (s.window 2).staged.kind writeA
      ∧ Admitted s writeA ∧ (accessMops s writeA).length = 1 ∧ s.oq.mops.getLast? = none
      ∧ s.surface (s.window 2).staged.surface = some surfA := by
  unfold Matches Covers Open Serves Admitted; decide

/-- Bytes and P16 pixels on both sides of a block boundary. -/
theorem witness_SplittingMakesOneMopPerBlock :
    BytesAscend [(63, 1#8), (64, 2#8)] ∧ (plainParts [(63, 1#8), (64, 2#8)]).length = 2
      ∧ PixelsAscend .p16 [(60, 15), (62, 15), (64, 8)] ∧ PixelsInBlocks .p16 [(60, 15), (62, 15), (64, 8)]
      ∧ (coverageParts .p16 0xF800#32 [(60, 15), (62, 15), (64, 8)]).length = 2
      ∧ BytesAscend [(62, 0), (63, 1), (64, 2), (65, 3)] ∧ SurfaceSound surfA := by
  unfold BytesAscend PixelsAscend PixelsInBlocks SurfaceSound; decide

/-- Window 2 LIVE in each kind on the surface of Chapter 11, and an access of its first word. -/
theorem servedA (k : Kind) (a : Access) (h : a = writeA ∨ a = readAccA) (hs : Serves k a) :
    ServedOn (stateA (windowA .live k 0)) 2 a surfA := by
  have hm : Matches (stateA (windowA .live k 0)) 2 a := by
    rcases h with rfl | rfl <;> unfold Matches Covers Open <;> cases k <;> decide
  exact ⟨hm, rfl, hs, rfl, by unfold SurfaceSound; decide⟩

/-- Each kind of write, admitted into an empty queue; the COVERAGE words have all values 15, or one of 8. -/
theorem witness_WriteTransformsDrawPixels :
    ((∀ x ∈ [(0, 15), (1, 15)], x.2 = 15) ∧ ∃ x ∈ [(0, 15), (1, 14)], x.2 ≠ 15)
      ∧ (∀ k, k ≠ Kind.matchKey →
          ServedOn (stateA (windowA .live k 0)) 2 writeA surfA ∧ Admitted (stateA (windowA .live k 0)) writeA
            ∧ accessMops (stateA (windowA .live k 0)) writeA ≠ [])
      ∧ (∀ k : Kind, (stateA (windowA .live k 0)).oq.mops.getLast? = none)
      ∧ ((accessMops (stateA (windowA .live .coverage 0)) writeA).map Mop.isPlain = [true]
          ∧ (accessMops (stateA (windowA .live .coverage 0)) { writeA with wdata := 0x8FFFFFFF#32 }).map Mop.isPlain
              = [false]) := by
  refine ⟨by decide, ?_, fun _ => rfl, by decide⟩
  intro k hk
  refine ⟨servedA k writeA (.inl rfl) ?_, ?_, ?_⟩
  · unfold Serves
    cases k <;> simp_all [writeA]
  · unfold Admitted
    cases k <;> decide
  · cases k <;> first | decide | exact absurd rfl hk

theorem witness_SurfacePixelsStayInOneBlock :
    SurfaceSound surfA ∧ 799 < surfA.width.toNat ∧ 479 < surfA.height.toNat := by
  unfold SurfaceSound; decide

theorem witness_ReadDataLandsAtItsPositions :
    (([(0, 5), (3, 8)].map Prod.fst).Nodup ∧ (∀ e ∈ [(0, 5), (3, 8)], e.1 < 4) ∧ (∀ e ∈ [(0, 5), (31, 8)], e.1 < 32)
      ∧ (3, 8) ∈ [(0, 5), (3, 8)] ∧ (∀ e ∈ [(0, 5), (3, 8)], e.1 ≠ 1))
      ∧ ∀ k, k = Kind.direct ∨ k = .matchKey →
          ServedOn (stateA (windowA .live k 0)) 2 readAccA surfA ∧ Admitted (stateA (windowA .live k 0)) readAccA
            ∧ accessMops (stateA (windowA .live k 0)) readAccA ≠ [] := by
  refine ⟨by decide, ?_⟩
  intro k hk
  refine ⟨servedA k readAccA (.inr rfl) ?_, ?_, ?_⟩
  · unfold Serves
    rcases hk with rfl | rfl <;> simp [readAccA, writeA]
  · unfold Admitted
    rcases hk with rfl | rfl <;> decide
  · rcases hk with rfl | rfl <;> decide

theorem witness_CompleteHeadIsAnswered :
    (State.reset.withEntries [entryA 0]).hsp.entries = entryA 0 :: [] ∧ (entryA 0).outstanding = 0
      ∧ (entryA 1).outstanding ≠ 0 ∧ State.reset.hsp.entries = [] := by
  decide

/-! ### Witnesses: the memory side -/

theorem witness_IssueTakesOldestEligibleCommand :
    let s := queueA State.reset [mopA 0 none .pending]
    s.resetN = true ∧ CreationOrder s ∧ s.oq.mops = [] ++ mopA 0 none .pending :: []
      ∧ (mopA 0 none .pending).nextPhase = some .write ∧ eligible [] (mopA 0 none .pending) = true ∧ s.tag 0 = .free
      ∧ (mopA 0 none .pending).content = .plain (blockOf [(0, 0xAB#8)])
      ∧ State.reset.oq.mops = []
      ∧ (Vector.replicate 8 (boundA .write))[7] ≠ Tag.free := by
  unfold CreationOrder; decide

theorem witness_EligibilityFollowsOrderingLaw :
    (mopA 0 none .pending).nextPhase = some .write ∧ (readA .pending).nextPhase = some .read
      ∧ (rmwA .pending).nextPhase = some .fetch ∧ (mopA 0 none (.issued 0)).nextPhase = none := by
  decide

theorem witness_OldestMopIsNeverStuck :
    let s := queueA State.reset [mopA 0 none .pending]
    s.resetN = true ∧ TagsSound s ∧ s.oq.mops = mopA 0 none .pending :: [] ∧ ∀ t, s.tag t = .free := by
  refine ⟨by decide, ⟨by unfold CreationOrder; decide, ?_, ?_, ?_⟩, by decide, by decide⟩
  · intro m hm
    rw [(by decide : (queueA State.reset [mopA 0 none .pending]).oq.mops = [mopA 0 none .pending]),
      List.mem_singleton] at hm
    subst hm
    trivial
  · intro t id p d b h
    rw [(by decide : ∀ t, (queueA State.reset [mopA 0 none .pending]).tag t = Tag.free) t] at h
    cases h
  · intro m hm t ht
    rw [(by decide : (queueA State.reset [mopA 0 none .pending]).oq.mops = [mopA 0 none .pending]),
      List.mem_singleton] at hm
    subst hm
    cases ht

/-- A bound MOP of each kind, for the OK, ERR and expiry statements. -/
theorem witness_OkResponseCompletesItsMop :
    (∀ m ∈ [mopA 0 none (.issued 0), rmwA (.fetching 0), readA (.issued 0)],
      CreationOrder (queueA State.reset [m]) ∧ m ∈ (queueA State.reset [m]).oq.mops)
      ∧ (∀ p : Phase, (State.reset.withTag 0 (boundA p)).tag 0 = .outstanding 0 p (some 16384) 0#32)
      ∧ (rmwA (.fetching 0)).content = .blend [(0, 8)] 0xFF#32 .p8
      ∧ (readA (.issued 0)).content = .read 0 (.bytes [(0, 0)]) := by
  refine ⟨by unfold CreationOrder; decide, ?_, by decide, by decide⟩
  intro p
  cases p <;> decide

theorem witness_ErrResponseFailsItsMop :
    let s := (queueA State.reset [readA (.issued 0)]).withTag 0 (boundA .read)
    s.resetN = true ∧ CreationOrder s ∧ readA (.issued 0) ∈ s.oq.mops
      ∧ s.tag 0 = .outstanding (readA (.issued 0)).id .read (some 16384) (readA (.issued 0)).block := by
  unfold CreationOrder; decide

theorem witness_StrayResponseIsOnlyRecorded :
    { State.reset with resetN := false }.resetN = false
      ∧ (State.reset.withTag 7 (.quarantined .read 0#32)).tag 7 = .quarantined .read 0#32
      ∧ State.reset.tag 0 = .free := by
  decide

theorem witness_ExpiryQuarantinesItsTag :
    let s := (queueA State.reset [mopA 0 none (.issued 0)]).withTag 0 (boundA .write)
    s.resetN = true ∧ CreationOrder s ∧ mopA 0 none (.issued 0) ∈ s.oq.mops
      ∧ s.tag 0 = .outstanding 0 .write (some 16384) 0#32
      ∧ (State.reset.withTag 0 (.outstanding 0 .write none 0#32)).tag 0 = .outstanding 0 .write none 0#32 := by
  unfold CreationOrder; decide

theorem witness_BlendStaysBetweenColours : 1 ≤ 1 ∧ 15 ≤ 15 ∧ (14 : Nat) ≤ 14 ∧ (31 : Nat) = 31 := by decide

theorem witness_CombineWritesBlendedPixels :
    (0xF800#32).toNat < 256 ^ PixelFormat.p16.bpp
      ∧ [(0, 14), (2, 15), (62, 1)].Pairwise (fun a b : Nat × Nat => a.1 + PixelFormat.p16.bpp ≤ b.1)
      ∧ (∀ px ∈ [(0, 14), (2, 15), (62, 1)], px.1 + PixelFormat.p16.bpp ≤ 64 ∧ 1 ≤ px.2 ∧ px.2 ≤ 15)
      ∧ ∀ px ∈ [(0, 14), (2, 15), (62, 1)], ¬ (px.1 ≤ 4 ∧ 4 < px.1 + PixelFormat.p16.bpp) := by
  decide

theorem witness_FaultHaltsStopOnFaultWindow :
    recordA.window = some { index := 2, generation := 1#8 }
      ∧ ((stateA (windowA .live .expand 1)).window 2).state = .live ∧ (stagedA .expand).stopOnFault = true
      ∧ ((stateA (windowA .halted .expand 1)).window 2).state ≠ .live ∧ { recordA with window := none }.window = none
      ∧ [({ number := 0#8, mark := 1 } : Fence), { number := 1#8, mark := 1 }].Pairwise (fun x y => x.mark ≤ y.mark) := by
  decide

theorem witness_LastRemovalDrainsClosingWindow :
    (mopA 0 none (.issued 0)).window = none
      ∧ (mopA 0 (some { index := 2, generation := 1#8 }) (.issued 0)).window = some { index := 2, generation := 1#8 }
      ∧ ((stateA (windowA .live .expand 1)).window 2).state ≠ .closing
      ∧ 2 ≤ ((stateA (windowA .closing .expand 2)).window 2).inFlight
      ∧ (((stateA (windowA .closing .expand 1)).window 2).state = .closing
          ∧ ((stateA (windowA .closing .expand 1)).window 2).inFlight = 1
          ∧ (stateA (windowA .closing .expand 1)).wt.clearAllPending = false)
      ∧ clearing.wt.clearAllPending = true ∧ (∀ j, j ≠ 2 → (clearing.window j).state ≠ .closing)
      ∧ ((clearing.withWindow 3 (windowA .closing .expand 1)).window 3).state = .closing := by
  decide

/-- Two fences complete at the removal of the only MOP; one still waits behind a younger MOP. -/
theorem witness_FencesCompleteInOrder :
    let f : List Fence := [{ number := 0#8, mark := 1 }, { number := 1#8, mark := 1 }, { number := 2#8, mark := 2 }]
    let s := queueA State.reset [mopA 0 none (.issued 0), mopA 1 none .pending]
    let s := { s with oq := { s.oq with fences := f } }
    s.oq.fences.Pairwise (fun a b => a.mark ≤ b.mark)
      ∧ ((removeMop (mopA 0 none (.issued 0)) s).oq.fences.map Fence.number) = [2#8]
      ∧ (removeMop (mopA 0 none (.issued 0)) s).oq.lastFence = some 1#8 := by
  decide

/-! ### Witnesses: pins and whole-machine rules -/

theorem witness_SerialEdgesMoveTheFrame :
    State.reset.csN = true ∧ { State.reset with csN := false }.csN = false
      ∧ { State.reset with resetN := false }.resetN = false
      ∧ { State.reset with csN := false }.resetN = true ∧ { State.reset with csN := false }.mgp.phase = .idle
      ∧ Frame.begun.phase = .command ∧ Frame.begun.bitCount < 7 ∧ { Frame.begun with bitCount := 7 }.bitCount = 7
      ∧ paramCount (nextShift 0x20#8 false) = 0 ∧ 0 < paramCount (nextShift 0x18#8 true)
      ∧ (expectParams 0x11#8).code = some 0x11#8 ∧ (expectParams 0x11#8).phase = .parameters
      ∧ ([0x40#8] ++ [nextShift 0x04#8 true]).length = paramCount 0x11#8
      ∧ ([] ++ [nextShift 0x20#8 false]).length < paramCount 0x11#8 := by
  decide

theorem witness_ResetRestoresEveryBlock :
    clearing.csN = true ∧ clearing.hsp.request = none ∧ clearing.pending = [] := by
  decide

theorem witness_AttentionFollowsItsConditions : State.reset.resetN = true := by decide

theorem witness_ManagementMovesNoPixelData :
    (encodeFrame .fence).isSome = true ∧ Instr.smSckRisingEdge true = .smSckRisingEdge true
      ∧ (after (exec .fence State.reset) clearing).oq.nextFence = 1#8 := by
  decide

theorem witness_GenerationAndPinnedGeometryAreStable :
    let s := { stateA (windowA .staged .expand 0) with pending := [.openWindow 2#8] }
    s.pending.head? ≠ some .resetNLow ∧ dueA.pending.head? ≠ some .resetNLow ∧ s.surface 0 = some surfA
      ∧ surfA.refCount ≠ 0 ∧ ((after (step s) s).surface 0).map Surface.refCount = some 2 := by
  decide

/-! ### Witnesses: sound states from which a step goes on -/

/-- Window 2 LIVE on surface 0 with one PENDING MOP in flight, and a pending command. -/
def soundA : State :=
  { queueA (stateA (windowA .live .expand 1)) [mopA 0 (some { index := 2, generation := 1#8 }) .pending] with
    pending := [.openWindow 2#8] }

theorem witness_StepKeepsCapacitiesAndCounters :
    WithinCapacity soundA ∧ CountersInRange soundA ∧ FlagsMatchSets soundA ∧ ∃ t, step soundA = .next t := by
  refine ⟨by unfold WithinCapacity; decide, by unfold CountersInRange; decide, by unfold FlagsMatchSets; decide, ⟨_, rfl⟩⟩

theorem witness_StepKeepsDescriptorsSound : SurfacesSound soundA ∧ ∃ t, step soundA = .next t := by
  refine ⟨?_, ⟨_, rfl⟩⟩
  unfold SurfacesSound SurfaceSound
  decide

theorem witness_StepKeepsDescriptorsSound_windows : WindowsSound soundA := by
  intro i
  by_cases h : i = 2
  · subst h
    exact ⟨by unfold StagedSound; decide, by decide, .p16, by decide⟩
  · rw [(by decide : ∀ i : Fin 16, i ≠ 2 → soundA.window i = Window.emptied 0#8) i h]
    rfl

theorem witness_StepKeepsOpenRangesDisjoint : RangesDisjoint soundA ∧ ∃ t, step soundA = .next t := by
  refine ⟨?_, ⟨_, rfl⟩⟩
  unfold RangesDisjoint
  decide

theorem witness_StepKeepsReferenceCountsExact : TablesSound soundA ∧ ∃ t, step soundA = .next t := by
  refine ⟨?_, ⟨_, rfl⟩⟩
  unfold TablesSound ClearAllSound RefCountsExact
  decide

theorem witness_StepKeepsInFlightCountsExact : QueueSound soundA ∧ ∃ t, step soundA = .next t := by
  refine ⟨?_, ⟨_, rfl⟩⟩
  unfold QueueSound CreationOrder InFlightExact
  decide

/-- A READ PENDING behind its entry, before its command is issued. -/
def soundB : State :=
  let s := queueA State.reset [readA .pending]
  { s with
    hsp := { s.hsp with entries := [{ entryA 1 with word := 0#32 }], nextId := 1 }
    pending := [.issue] }

theorem soundB_tags : TagsSound soundB := by
  refine ⟨by unfold CreationOrder; decide, ?_, ?_, ?_⟩
  · intro m hm
    rw [(by decide : soundB.oq.mops = [readA .pending]), List.mem_singleton] at hm
    subst hm
    trivial
  · intro t id p d b h
    rw [(by decide : ∀ t, soundB.tag t = Tag.free) t] at h
    cases h
  · intro m hm t ht
    rw [(by decide : soundB.oq.mops = [readA .pending]), List.mem_singleton] at hm
    subst hm
    cases ht

theorem witness_StepKeepsTagsAndEntriesExact : ReadsSound soundB ∧ ∃ t, step soundB = .next t := by
  refine ⟨⟨soundB_tags, ?_⟩, ⟨_, rfl⟩⟩
  unfold EntriesExact
  decide

theorem witness_StepKeepsOrderingLaw : TagsSound soundB ∧ OrderSound soundB ∧ ∃ t, step soundB = .next t := by
  refine ⟨soundB_tags, ?_, ⟨_, rfl⟩⟩
  unfold OrderSound CreationOrder OrderedPair
  decide

/-- A fence behind a PENDING MOP. -/
def soundC : State :=
  let s := queueA State.reset [mopA 0 none .pending]
  { s with
    oq := { s.oq with fences := [{ number := 0#8, mark := 1 }], nextFence := 1#8 }
    pending := [.fence] }

theorem witness_StepKeepsFencesSound : CreationOrder soundC ∧ FencesSound soundC ∧ ∃ t, step soundC = .next t := by
  refine ⟨by unfold CreationOrder; decide, ⟨by decide, by decide, ?_⟩, ⟨_, rfl⟩⟩
  intro k f hf
  rcases k with _ | k
  · cases hf
    decide
  · cases hf

theorem witness_StepKeepsMopBytesSound : BytesSound soundC ∧ ∃ t, step soundC = .next t := by
  refine ⟨?_, ⟨_, rfl⟩⟩
  intro m hm
  rw [(by decide : soundC.oq.mops = [mopA 0 none .pending]), List.mem_singleton] at hm
  subst hm
  refine ⟨by decide, by decide, ?_⟩
  show ∀ k : Fin 64, (1#64).getLsbD k.val = false → (blockOf [(0, 0xAB#8)])[k.val] = 0#8
  decide

theorem witness_StepKeepsFrameAndResetHold :
    FrameSound { State.reset with pending := [.smCsNFall] } ∧ HeldInReset { State.reset with resetN := false }
      ∧ ∃ t, step { State.reset with pending := [.smCsNFall] } = .next t := by
  refine ⟨⟨by decide, by decide, rfl⟩, by unfold HeldInReset; decide, ⟨_, rfl⟩⟩

end Sys2Proof.Tests
end

section
/-! PROOF. What one step can do to the surface table, the window table and the management port, said once: a step is a
run of traffic moves (accesses, responses, expiries) or one management command, or an edge of a pin. Every invariant
of the two tables is then a statement about single moves. -/

namespace Sys2Proof.Proofs

open Sys2Proof.Machine Sys2Proof.Safety Sys2Proof.Claims

/-! ### States with the same tables -/

/-- The surface table and the window table are the same in both states. -/
def SameTables (s t : State) : Prop := t.st = s.st ∧ t.wt = s.wt

theorem SameTables.window {s t : State} (h : SameTables s t) (i : Fin 16) : t.window i = s.window i := by
  simp only [State.window, h.2]

theorem SameTables.surface {s t : State} (h : SameTables s t) (k : Fin 8) : t.surface k = s.surface k := by
  simp only [State.surface, h.1]

theorem SameTables.clearAllPending {s t : State} (h : SameTables s t) :
    t.wt.clearAllPending = s.wt.clearAllPending := by
  rw [h.2]

/-- The frame receive state and the two pins are the same in both states. -/
def SamePort (s t : State) : Prop := t.mgp = s.mgp ∧ t.csN = s.csN ∧ t.resetN = s.resetN

theorem SamePort.trans {s t u : State} (h : SamePort s t) (h' : SamePort t u) : SamePort s u := by
  obtain ⟨hm, hc, hr⟩ := h
  obtain ⟨hm', hc', hr'⟩ := h'
  exact ⟨hm'.trans hm, hc'.trans hc, hr'.trans hr⟩

/-! ### Traffic moves -/

/-- One change that traffic makes: in the blocks other than the tables, or of one window of the table. -/
inductive TrafficMove : State → State → Prop where
  /-- Neither the tables nor the management port change. -/
  | elsewhere {s t : State} : SameTables s t → SamePort s t → TrafficMove s t
  /-- A MOP leaves its window, which may drain (R20, R29). -/
  | leave (i : Fin 16) (s : State) : TrafficMove s (leaveWindow i s)
  /-- A LIVE window halts with `n` of its MOPs cancelled (R31). -/
  | halt (i : Fin 16) (n : Nat) {s : State} :
      (s.window i).state = .live → TrafficMove s (s.withWindow i ((s.window i).afterHalt n))
  /-- A LIVE window takes a transformed access (R54). -/
  | accept (i : Fin 16) (n : Nat) {s : State} : (s.window i).state = .live → TrafficMove s (claimAccepted i n s)
  /-- A LIVE or HALTED window refuses an access (R54). -/
  | turnAway (i : Fin 16) {s : State} : (s.window i).matching = true → TrafficMove s (claimRefused i s)

/-- A run of traffic moves. -/
abbrev Traffic : State → State → Prop := Relation.ReflTransGen TrafficMove

theorem Traffic.elsewhere {s t : State} (ht : SameTables s t) (hp : SamePort s t) : Traffic s t :=
  .single (.elsewhere ht hp)

/-- What every traffic move keeps, every run of them keeps. -/
theorem Traffic.keeps {P : State → Prop} (hP : ∀ {s t}, TrafficMove s t → P s → P t) {s t : State} (h : Traffic s t)
    (hs : P s) : P t := by
  induction h with
  | refl => exact hs
  | tail _ move ih => exact hP move ih

theorem TrafficMove.samePort {s t : State} (h : TrafficMove s t) : SamePort s t := by
  cases h with
  | elsewhere _ hp => exact hp
  | leave i => simp [SamePort]
  | halt i n _ => simp [SamePort]
  | accept i n _ => simp [SamePort, claimAccepted]
  | turnAway i _ => simp [SamePort, claimRefused]

/-- Traffic never touches the management port or a pin. -/
theorem Traffic.samePort {s t : State} (h : Traffic s t) : SamePort s t :=
  h.keeps (P := SamePort s) (fun move hs => hs.trans move.samePort) ⟨rfl, rfl, rfl⟩

/-! ### The operations of the traffic as runs of moves -/

theorem traffic_completeFences (s : State) : Traffic s (completeFences s) :=
  .elsewhere (by simp [SameTables]) (by simp [SamePort])

theorem traffic_removeMop (m : Mop) (s : State) : Traffic s (removeMop m s) := by
  have hmops : Traffic s (s.withMops (dropMop m.id s.oq.mops)) :=
    .elsewhere ⟨rfl, rfl⟩ ⟨rfl, rfl, rfl⟩
  have hleave : ∀ u, Traffic u (leaveTag m.window u) := by
    intro u
    cases m.window with
    | none => exact .refl
    | some t => exact .single (.leave t.index u)
  exact (hmops.trans (hleave _)).trans (traffic_completeFences _)

theorem traffic_haltWindow {i : Fin 16} {s : State} (h : (s.window i).state = .live) : Traffic s (haltWindow i s) := by
  refine .tail (.single (.halt i (s.oq.mops.filter fun m => m.cancelledBy i).length h)) (.elsewhere ?_ ?_)
  · simp [SameTables, haltWindow]
  · simp [SamePort]

theorem traffic_reportFault (r : FaultRecord) (s : State) : Traffic s (reportFault r s) := by
  have hlog : ∀ fu, Traffic s (s.withFu fu) := fun fu => .elsewhere ⟨rfl, rfl⟩ ⟨rfl, rfl, rfl⟩
  obtain ⟨-, h⟩ | ⟨i, hi, h⟩ := reportFault_cases r s
  · rw [h]; exact hlog _
  · obtain ⟨-, hlive, -⟩ := haltedByFault_some hi
    rw [h]
    exact (hlog _).trans (traffic_haltWindow hlive)

theorem traffic_withTag (t : Fin 8) (x : Tag) (s : State) : Traffic s (s.withTag t x) :=
  .elsewhere ⟨rfl, rfl⟩ ⟨rfl, rfl, rfl⟩

theorem traffic_onLinkedEntry (m : Mop) (f : Entry → Entry) (s : State) : Traffic s (onLinkedEntry m f s) := by
  unfold onLinkedEntry
  split
  · exact .refl
  · exact .elsewhere ⟨rfl, rfl⟩ ⟨rfl, rfl, rfl⟩

theorem traffic_failMop (m : Mop) (s : State) : Traffic s (failMop m s) :=
  (traffic_onLinkedEntry m _ s).trans (traffic_removeMop m _)

theorem traffic_deliverOk (m : Mop) (phase : Phase) (data : Block) (s : State) :
    Traffic s (deliverOk m phase data s) := by
  cases phase with
  | write => exact traffic_removeMop m s
  | fetch => exact .elsewhere ⟨rfl, rfl⟩ ⟨rfl, rfl, rfl⟩
  | read => exact (traffic_onLinkedEntry m _ s).trans (traffic_removeMop m _)

theorem traffic_deliver (t : Fin 8) (id : Nat) (phase : Phase) (st : RespStatus) (data : Block) (s : State) :
    Traffic s (deliver t id phase st data s) := by
  unfold deliver
  split
  · exact .refl
  · cases st with
    | ok => exact traffic_deliverOk _ phase data s
    | err => exact (traffic_failMop _ s).trans (traffic_reportFault _ _)

theorem traffic_acceptResponse (t : Fin 8) (st : RespStatus) (data : Block) (s : State) :
    Traffic s (acceptResponse t st data s) := by
  unfold acceptResponse
  split
  · exact traffic_reportFault _ s
  · exact (traffic_withTag t .free s).trans (traffic_reportFault _ _)
  · exact (traffic_withTag t .free s).trans (traffic_deliver t _ _ st data _)

theorem traffic_timeOutMop (t : Fin 8) (id : Nat) (phase : Phase) (s : State) :
    Traffic s (timeOutMop t id phase s) := by
  unfold timeOutMop
  split
  · exact .refl
  · exact (traffic_failMop _ s).trans (traffic_reportFault _ _)

theorem traffic_expireTag (t : Fin 8) (s : State) : Traffic s (expireTag t s) := by
  obtain h | ⟨id, p, d, block, -, h⟩ := expireTag_cases t s
  · rw [h]
  · rw [h]
    exact (traffic_withTag t _ s).trans (traffic_timeOutMop t id p _)

theorem traffic_clockTo (n : Nat) (s : State) : Traffic s (clockTo n s) :=
  .elsewhere ⟨rfl, rfl⟩ ⟨rfl, rfl, rfl⟩

theorem traffic_reachDeadline (t : Fin 8) (s : State) : Traffic s (reachDeadline t s) := by
  unfold reachDeadline
  split
  · exact .refl
  · exact (traffic_clockTo _ s).trans (traffic_expireTag t _)

theorem traffic_expireIfDue (t : Fin 8) (s : State) : Traffic s (expireIfDue t s) := by
  unfold expireIfDue
  split
  · exact .refl
  · split
    · exact traffic_expireTag t s
    · exact .refl

theorem traffic_tick (s : State) : Traffic s (tick s) := by
  have hfold : ∀ (l : List (Fin 8)) (u : State), Traffic u (l.foldl (fun s t => expireIfDue t s) u) := by
    intro l
    induction l with
    | nil => exact fun u => .refl
    | cons t rest ih => exact fun u => (traffic_expireIfDue t u).trans (ih _)
  exact (traffic_clockTo _ s).trans (hfold _ _)

theorem traffic_issueNext (s : State) : Traffic s (issueNext s) := by
  obtain h | ⟨m, t, p, -, -, h⟩ := issueNext_cases s
  · rw [h]
  · rw [h]
    exact .elsewhere ⟨rfl, rfl⟩ ⟨rfl, rfl, rfl⟩

theorem traffic_answerHead (s : State) : Traffic s (answerHead s) := by
  unfold answerHead
  split
  · exact .refl
  · split
    · exact .elsewhere ⟨rfl, rfl⟩ ⟨rfl, rfl, rfl⟩
    · exact .refl

/-- A matched window is LIVE or HALTED (R39). -/
theorem matchedWindow_matching {wt : WindowTable} {addr : Nat} {i : Fin 16} (h : matchedWindow wt addr = some i) :
    wt.windows[i.val].matching = true := by
  unfold matchedWindow at h
  have hcovers := List.find?_some h
  simp only [Window.covers, Bool.and_eq_true] at hcovers
  exact hcovers.1.1

/-- An access passes through, or it matches a window: a HALTED one refuses it, a LIVE one serves it or finds it in the
wrong direction (R40). -/
theorem disposition_cases (s : State) (a : Access) :
    disposition s.wt a = .passThrough
      ∨ ∃ i, ((s.window i).state = .halted ∧ disposition s.wt a = .haltedRefusal i)
          ∨ ((s.window i).state = .live
              ∧ (disposition s.wt a = .transformed i ∨ disposition s.wt a = .wrongDirection i)) := by
  unfold disposition
  cases hi : matchedWindow s.wt (accessAddr a) with
  | none => exact .inl rfl
  | some i =>
    have hm : (s.window i).matching = true := matchedWindow_matching hi
    simp only [Window.matching, Bool.or_eq_true, decide_eq_true_eq] at hm
    refine .inr ⟨i, ?_⟩
    by_cases hh : (s.window i).state = .halted
    · exact .inl ⟨hh, if_pos hh⟩
    · refine .inr ⟨hm.resolve_right hh, ?_⟩
      simp only [if_neg (show ¬ s.wt.windows[i.val].state = .halted from hh)]
      split
      · exact .inl rfl
      · exact .inr rfl

theorem matching_of_live {w : Window} (h : w.state = .live) : w.matching = true := by simp [Window.matching, h]

theorem matching_of_halted {w : Window} (h : w.state = .halted) : w.matching = true := by simp [Window.matching, h]

theorem traffic_pushEntry (a : Access) (n : Nat) (error : Bool) (s : State) : Traffic s (pushEntry a n error s) := by
  unfold pushEntry
  split
  · exact .refl
  · exact .elsewhere ⟨rfl, rfl⟩ ⟨rfl, rfl, rfl⟩

theorem traffic_admitMops (a : Access) (s : State) : Traffic s (admitMops a s) :=
  .elsewhere ⟨rfl, rfl⟩ ⟨rfl, rfl, rfl⟩

theorem traffic_takeAccess (a : Access) (s : State) : Traffic s (takeAccess a s) := by
  have hrefused : ∀ i, (s.window i).matching = true → Traffic s (pushEntry a 0 true (claimRefused i s)) :=
    fun i hm => .trans (.single (.turnAway i hm)) (traffic_pushEntry a _ _ _)
  obtain hd | ⟨i, ⟨hhalted, hd⟩ | ⟨hlive, hd | hd⟩⟩ := disposition_cases s a
  · simp only [takeAccess, hd]
    exact (traffic_admitMops a s).trans (traffic_pushEntry a _ _ _)
  · simp only [takeAccess, hd]
    exact hrefused i (matching_of_halted hhalted)
  · simp only [takeAccess, hd]
    exact ((traffic_admitMops a s).tail (.accept i _ hlive)).trans (traffic_pushEntry a _ _ _)
  · simp only [takeAccess, hd]
    exact (hrefused i (matching_of_live hlive)).trans (traffic_reportFault _ _)

theorem traffic_setRequest (r : Option Access) (s : State) : Traffic s (setRequest r s) :=
  .elsewhere ⟨rfl, rfl⟩ ⟨rfl, rfl, rfl⟩

theorem traffic_driveRequest (r : Option Access) (s : State) : Traffic s (driveRequest r s) := by
  cases r with
  | none => exact traffic_setRequest none s
  | some a =>
    simp only [driveRequest, presentAccess]
    split
    · exact (traffic_setRequest none s).trans (traffic_takeAccess a _)
    · exact traffic_setRequest _ s

theorem traffic_unlessReset {f : State → State} {s : State} (h : Traffic s (f s)) : Traffic s (unlessReset s f) := by
  unfold unlessReset
  split
  · exact h
  · exact .refl

/-! ### Management commands -/

/-- The effect of one management command outside the frame: a change of one table entry by a command that passed its
checks, CLEAR_ALL, or none in the tables. -/
inductive CommandMove : State → State → Prop where
  /-- The tables stay: another block changes, or the command is refused. -/
  | elsewhere {s t : State} : SameTables s t → t.resetN = s.resetN → CommandMove s t
  /-- SET_SURFACE defines an entry that is not pinned (R9, R10). -/
  | define (k : Fin 8) (f : PixelFormat) (p : SurfaceParams) {s : State} :
      s.wt.clearAllPending = false → pinned (s.surface k) = false → geometryValid f p = true →
      CommandMove s (s.withSurface k (some (surfaceOf f p)))
  /-- DROP_SURFACE empties an entry that is not pinned (R11). -/
  | drop (k : Fin 8) (d : Surface) {s : State} :
      s.wt.clearAllPending = false → s.surface k = some d → d.refCount = 0 → CommandMove s (s.withSurface k none)
  /-- SET_WINDOW stages a window that holds no surface (R21, R22). -/
  | stage (i : Fin 16) (kind : Kind) (sf : Fin 8) (p : WindowParams) {s : State} :
      s.wt.clearAllPending = false → windowFieldsValid p = true → (s.window i).holds = false →
      CommandMove s (s.withWindow i { s.window i with state := .staged, staged := stagedOf kind sf p })
  /-- OPEN_WINDOW opens a STAGED window on its surface (R23, R24). -/
  | opening (i : Fin 16) (d : Surface) {s : State} :
      s.wt.clearAllPending = false → (s.window i).state = .staged →
      s.surface (s.window i).staged.surface = some d →
      rangeFits (deriveFields (s.window i).staged d.format) = true →
      overlapsOpenWindow s.wt i (s.window i).staged.hostBase.toNat
        (deriveFields (s.window i).staged d.format).hostLimit = false →
      CommandMove s
        (openClaim (s.window i).staged.surface
          (s.withWindow i ((s.window i).opened (deriveFields (s.window i).staged d.format))))
  /-- CLOSE_WINDOW closes a LIVE or HALTED window (R28). -/
  | close (i : Fin 16) {s : State} :
      s.wt.clearAllPending = false → (s.window i).matching = true → CommandMove s (closeOpen i s)
  /-- RESUME_WINDOW revives a HALTED window (R32). -/
  | resume (i : Fin 16) {s : State} :
      s.wt.clearAllPending = false → (s.window i).state = .halted →
      CommandMove s (s.withWindow i { s.window i with state := .live })
  /-- CLEAR_ALL (R34, R35). -/
  | clear {s : State} : s.wt.clearAllPending = false → CommandMove s (endClearAll (startClearAll s))

theorem CommandMove.refused (s : State) : CommandMove s s := .elsewhere ⟨rfl, rfl⟩ rfl

/-- No management command moves RESET_N. -/
theorem CommandMove.resetN {s t : State} (h : CommandMove s t) : t.resetN = s.resetN := by
  cases h with
  | elsewhere _ hr => exact hr
  | define | drop | stage | opening | resume => simp
  | close i => unfold closeOpen; split <;> simp
  | clear => simp [startClearAll]

/-- Parameters that pass the checks of SET_SURFACE name an entry and a format and carry valid geometry (R10). -/
theorem checkSurface_some {p : SurfaceParams} {k : Fin 8} {d : Surface} (h : checkSurface p = some (k, d)) :
    ∃ f, surfaceIndex p.index = some k ∧ formatOfCode p.format = some f ∧ geometryValid f p = true
      ∧ d = surfaceOf f p := by
  unfold checkSurface at h
  split at h
  · rename_i f hk hf
    split at h
    · rename_i hg
      cases h
      exact ⟨f, hk, hf, hg, rfl⟩
    · cases h
  · cases h

/-- Parameters that pass the checks of SET_WINDOW carry valid fields (R22). -/
theorem checkWindow_some {p : WindowParams} {i : Fin 16} {w : Staged} (h : checkWindow p = some (i, w)) :
    ∃ kind sf, windowFieldsValid p = true ∧ w = stagedOf kind sf p := by
  unfold checkWindow at h
  split at h
  · rename_i kind sf _ _ _
    split at h
    · rename_i hv
      cases h
      exact ⟨kind, sf, hv, rfl⟩
    · cases h
  · cases h

theorem setSurfaceReply_move (p : SurfaceParams) (s : State) : CommandMove s (setSurfaceReply p s).state := by
  unfold setSurfaceReply
  by_cases hb : s.wt.clearAllPending = true
  · rw [if_pos hb]; exact .refused s
  · rw [if_neg hb]
    rw [Bool.not_eq_true] at hb
    cases hc : checkSurface p with
    | none => exact .refused s
    | some kd =>
      obtain ⟨k, d⟩ := kd
      obtain ⟨f, -, -, hg, rfl⟩ := checkSurface_some hc
      cases hp : pinned (s.surface k) with
      | true => simpa [hp] using .refused s
      | false => simpa [hp] using .define k f p hb hp hg

theorem dropSurfaceReply_move (index : Byte) (s : State) : CommandMove s (dropSurfaceReply index s).state := by
  unfold dropSurfaceReply
  by_cases hb : s.wt.clearAllPending = true
  · rw [if_pos hb]; exact .refused s
  · rw [if_neg hb]
    rw [Bool.not_eq_true] at hb
    cases surfaceIndex index with
    | none => exact .refused s
    | some k =>
      cases hk : s.surface k with
      | none => simpa [hk] using .refused s
      | some d =>
        by_cases hd : d.refCount = 0
        · simpa [hk, hd] using .drop k d hb hk hd
        · simpa [hk, hd] using .refused s

theorem setWindowReply_move (p : WindowParams) (s : State) : CommandMove s (setWindowReply p s).state := by
  unfold setWindowReply
  by_cases hb : s.wt.clearAllPending = true
  · rw [if_pos hb]; exact .refused s
  · rw [if_neg hb]
    rw [Bool.not_eq_true] at hb
    cases hc : checkWindow p with
    | none => exact .refused s
    | some iw =>
      obtain ⟨i, w⟩ := iw
      obtain ⟨kind, sf, hv, rfl⟩ := checkWindow_some hc
      cases hh : (s.window i).holds with
      | true => simpa [hh] using .refused s
      | false => simpa [hh] using .stage i kind sf p hb hv hh

theorem openStaged_move (i : Fin 16) {s : State} (hb : s.wt.clearAllPending = false) :
    CommandMove s (openStaged i s).state := by
  unfold openStaged
  by_cases hst : (s.window i).state = .staged
  · rw [if_neg (not_not_intro hst)]
    cases hd : s.surface (s.window i).staged.surface with
    | none => exact .refused s
    | some d =>
      cases hr : rangeFits (deriveFields (s.window i).staged d.format) with
      | false => simpa [hr] using .refused s
      | true =>
        cases ho : overlapsOpenWindow s.wt i (s.window i).staged.hostBase.toNat
            (deriveFields (s.window i).staged d.format).hostLimit with
        | true => simpa [hr, ho] using .refused s
        | false => simpa [hr, ho] using .opening i d hb hst hd hr ho
  · rw [if_pos hst]; exact .refused s

theorem openWindowReply_move (index : Byte) (s : State) : CommandMove s (openWindowReply index s).state := by
  unfold openWindowReply
  by_cases hb : s.wt.clearAllPending = true
  · rw [if_pos hb]; exact .refused s
  · rw [if_neg hb]
    rw [Bool.not_eq_true] at hb
    cases windowIndex index with
    | none => exact .refused s
    | some i => exact openStaged_move i hb

theorem closeWindowReply_move (index : Byte) (s : State) : CommandMove s (closeWindowReply index s).state := by
  unfold closeWindowReply
  by_cases hb : s.wt.clearAllPending = true
  · rw [if_pos hb]; exact .refused s
  · rw [if_neg hb]
    rw [Bool.not_eq_true] at hb
    cases windowIndex index with
    | none => exact .refused s
    | some i =>
      cases hm : (s.window i).matching with
      | false => simpa [hm] using .refused s
      | true => simpa [hm] using .close i hb hm

theorem resumeWindowReply_move (index : Byte) (s : State) : CommandMove s (resumeWindowReply index s).state := by
  unfold resumeWindowReply
  by_cases hb : s.wt.clearAllPending = true
  · rw [if_pos hb]; exact .refused s
  · rw [if_neg hb]
    rw [Bool.not_eq_true] at hb
    cases windowIndex index with
    | none => exact .refused s
    | some i =>
      by_cases hh : (s.window i).state = .halted
      · simpa [hh] using .resume i hb hh
      · simpa [hh] using .refused s

theorem clearAllReply_move (s : State) : CommandMove s (clearAllReply s).state := by
  unfold clearAllReply
  by_cases hb : s.wt.clearAllPending = true
  · rw [if_pos hb]; exact .refused s
  · rw [if_neg hb]
    rw [Bool.not_eq_true] at hb
    simp only [done]
    exact .clear hb

theorem fenceReply_move (s : State) : CommandMove s (fenceReply s).state := by
  unfold fenceReply
  split
  · exact .refused s
  · split <;> exact .elsewhere ⟨rfl, rfl⟩ rfl

theorem popFaultReply_move (s : State) : CommandMove s (popFaultReply s).state := by
  unfold popFaultReply
  split <;> exact .elsewhere ⟨rfl, rfl⟩ rfl

theorem readSurfaceReply_move (index : Byte) (s : State) : CommandMove s (readSurfaceReply index s).state := by
  unfold readSurfaceReply
  split <;> exact .refused s

theorem readWindowReply_move (index : Byte) (s : State) : CommandMove s (readWindowReply index s).state := by
  unfold readWindowReply
  split <;> exact .refused s

/-- Taking a command is one management command with its answer; an event of another port has no frame and changes
nothing (R149). -/
theorem takeCommand_cases (c : Instr) (s : State) :
    takeCommand c s = s ∨ ∃ code params r, takeCommand c s = answer code params r ∧ CommandMove s r.state := by
  cases c with
  | getStatus => exact .inr ⟨_, _, _, rfl, .refused s⟩
  | configure timeout enables =>
    exact .inr ⟨_, _, done (setConfiguration timeout enables s) [], rfl, .elsewhere ⟨rfl, rfl⟩ rfl⟩
  | ackNotice mask => exact .inr ⟨_, _, done (s.withFu (acknowledge mask s.fu)) [], rfl, .elsewhere ⟨rfl, rfl⟩ rfl⟩
  | linkRecover => exact .inr ⟨_, _, done (recoverTags s) _, rfl, .elsewhere ⟨rfl, rfl⟩ rfl⟩
  | setSurface p => exact .inr ⟨_, _, _, rfl, setSurfaceReply_move p s⟩
  | dropSurface index => exact .inr ⟨_, _, _, rfl, dropSurfaceReply_move index s⟩
  | readSurface index => exact .inr ⟨_, _, _, rfl, readSurfaceReply_move index s⟩
  | setWindow p => exact .inr ⟨_, _, _, rfl, setWindowReply_move p s⟩
  | openWindow index => exact .inr ⟨_, _, _, rfl, openWindowReply_move index s⟩
  | closeWindow index => exact .inr ⟨_, _, _, rfl, closeWindowReply_move index s⟩
  | resumeWindow index => exact .inr ⟨_, _, _, rfl, resumeWindowReply_move index s⟩
  | readWindow index => exact .inr ⟨_, _, _, rfl, readWindowReply_move index s⟩
  | fence => exact .inr ⟨_, _, _, rfl, fenceReply_move s⟩
  | popFault => exact .inr ⟨_, _, _, rfl, popFaultReply_move s⟩
  | clearAll => exact .inr ⟨_, _, _, rfl, clearAllReply_move s⟩
  | unknownCommand code => exact .inr ⟨_, _, _, rfl, .refused s⟩
  | requestHandshake | entryAnswered | issue | memoryResponse | expiry | smCsNFall | smCsNRise | resetNLow
  | resetNRelease | smSckRisingEdge => exact .inl rfl

/-! ### One step -/

/-- What carrying out a command can do: traffic, a management command or a completed command byte outside reset, or an
edge of a pin. -/
inductive ExecResult (c : Instr) (s : State) : State → Prop where
  | traffic {t : State} : Traffic s t → ExecResult c s t
  | command (m : Instr) : ExecResult c s (unlessReset s (takeCommand m))
  | commandByte (code : Byte) :
      ExecResult c s (unlessReset s fun s => completeCommandByte code { s with csN := false })
  | clock (di : Bool) : ExecResult c s (unlessReset s fun s => if s.csN then s else clockEdge di s)
  | select : ExecResult c s (csFall s)
  | deselect : ExecResult c s (csRise s)
  | hold : c = .resetNLow → ExecResult c s (holdInReset s)
  | release : ExecResult c s (releaseReset s)

theorem exec_result {c : Instr} {s t : State} (h : exec c s = .next t) : ExecResult c s t := by
  cases c with
  | requestHandshake r => cases h; exact .traffic (traffic_driveRequest r s)
  | entryAnswered => cases h; exact .traffic (traffic_unlessReset (traffic_answerHead s))
  | issue => cases h; exact .traffic (traffic_unlessReset (traffic_issueNext s))
  | memoryResponse k st data => cases h; exact .traffic (traffic_unlessReset (traffic_acceptResponse k st data s))
  | expiry k => cases h; exact .traffic (traffic_unlessReset (traffic_reachDeadline k s))
  | getStatus => cases h; exact .command .getStatus
  | configure timeout enables => cases h; exact .command (.configure timeout enables)
  | ackNotice mask => cases h; exact .command (.ackNotice mask)
  | setSurface p => cases h; exact .command (.setSurface p)
  | dropSurface index => cases h; exact .command (.dropSurface index)
  | readSurface index => cases h; exact .command (.readSurface index)
  | setWindow p => cases h; exact .command (.setWindow p)
  | openWindow index => cases h; exact .command (.openWindow index)
  | closeWindow index => cases h; exact .command (.closeWindow index)
  | resumeWindow index => cases h; exact .command (.resumeWindow index)
  | readWindow index => cases h; exact .command (.readWindow index)
  | fence => cases h; exact .command .fence
  | popFault => cases h; exact .command .popFault
  | linkRecover => cases h; exact .command .linkRecover
  | clearAll => cases h; exact .command .clearAll
  | unknownCommand code => cases h; exact .commandByte code
  | smCsNFall => cases h; exact .select
  | smCsNRise => cases h; exact .deselect
  | resetNLow => cases h; exact .hold rfl
  | resetNRelease => cases h; exact .release
  | smSckRisingEdge di => cases h; exact .clock di

/-- A step is an idle clock period, or the front command carried out with the rest waiting. -/
theorem step_cases {s t : State} (h : step s = .next t) :
    (s.pending = [] ∧ t = idle s)
      ∨ ∃ c rest, s.pending = c :: rest ∧ ExecResult c { s with pending := rest } t := by
  unfold step at h
  split at h
  · rename_i hp
    cases h
    exact .inl ⟨hp, rfl⟩
  · rename_i c rest hp
    exact .inr ⟨c, rest, hp, exec_result h⟩

theorem traffic_idle (s : State) : Traffic s (idle s) := traffic_unlessReset (traffic_tick s)

/-! ### One step on the tables -/

/-- What a step with this front command can do to the two tables: traffic, one management command, or the reset values
at RESET_N_LOW. The other blocks may change besides. -/
inductive TablesResult (front : Option Instr) (s t : State) : Prop where
  | traffic : Traffic s t → TablesResult front s t
  | command (s' u : State) : SameTables s s' → CommandMove s' u → SameTables u t → TablesResult front s t
  | reset : front = some .resetNLow → SameTables State.reset t → TablesResult front s t

theorem TablesResult.of_sameTables {front : Option Instr} {s t : State} (h : SameTables s t) :
    TablesResult front s t :=
  .command s s ⟨rfl, rfl⟩ (.refused s) h

theorem takeCommand_tables {front : Option Instr} {s s' : State} (hs : SameTables s s') (c : Instr) :
    TablesResult front s (takeCommand c s') := by
  obtain h | ⟨code, params, r, h, hmove⟩ := takeCommand_cases c s'
  · rw [h]; exact .of_sameTables hs
  · rw [h]; exact .command s' r.state hs hmove ⟨rfl, rfl⟩

/-- A completed command byte waits for parameters, or its command is taken (R148). -/
theorem completeCommandByte_cases (code : Byte) (s : State) :
    (paramCount code ≠ 0 ∧ completeCommandByte code s = s.withFrame (expectParams code))
      ∨ completeCommandByte code s = takeCommand (decodeFrame code []) s := by
  unfold completeCommandByte
  split
  · exact .inr rfl
  · rename_i h; exact .inl ⟨h, rfl⟩

/-- A completed parameter byte is stored, or its command is taken (R148). -/
theorem completeParamByte_cases (b : Byte) (s : State) :
    (∃ f, completeParamByte b s = s.withFrame f) ∨ ∃ c, completeParamByte b s = takeCommand c s := by
  unfold completeParamByte
  split
  · exact .inl ⟨s.mgp, rfl⟩
  · split
    · exact .inr ⟨_, rfl⟩
    · exact .inl ⟨_, rfl⟩

/-- An edge of SM_SCK moves the frame alone, or takes a command (R148). -/
theorem clockEdge_cases (di : Bool) (s : State) :
    (∃ f, clockEdge di s = s.withFrame f) ∨ ∃ c, clockEdge di s = takeCommand c s := by
  unfold clockEdge
  split
  · exact .inl ⟨s.mgp, rfl⟩
  · split
    · exact .inl ⟨_, rfl⟩
    · obtain ⟨-, h⟩ | h := completeCommandByte_cases (shiftIn s.mgp di) s
      · exact .inl ⟨_, h⟩
      · exact .inr ⟨_, h⟩
  · split
    · exact .inl ⟨_, rfl⟩
    · exact completeParamByte_cases _ s
  · split <;> exact .inl ⟨_, rfl⟩
  · split <;> exact .inl ⟨_, rfl⟩

theorem tables_unlessReset {front : Option Instr} {s : State} {f : State → State} (h : TablesResult front s (f s)) :
    TablesResult front s (unlessReset s f) := by
  unfold unlessReset
  split
  · exact h
  · exact .of_sameTables ⟨rfl, rfl⟩

theorem ExecResult.tables {c : Instr} {s t : State} (h : ExecResult c s t) : TablesResult (some c) s t := by
  cases h with
  | traffic h => exact .traffic h
  | command m => exact tables_unlessReset (takeCommand_tables ⟨rfl, rfl⟩ m)
  | commandByte code =>
    refine tables_unlessReset ?_
    obtain ⟨-, h⟩ | h := completeCommandByte_cases code { s with csN := false }
    · simp only [h]; exact .of_sameTables ⟨rfl, rfl⟩
    · simp only [h]; exact takeCommand_tables (s := s) (s' := { s with csN := false }) ⟨rfl, rfl⟩ _
  | clock di =>
    refine tables_unlessReset ?_
    by_cases hcs : s.csN = true
    · simp only [hcs, if_true]; exact .of_sameTables ⟨rfl, rfl⟩
    · simp only [hcs]
      obtain ⟨f, h⟩ | ⟨m, h⟩ := clockEdge_cases di s
      · rw [h]; exact .of_sameTables ⟨rfl, rfl⟩
      · rw [h]; exact takeCommand_tables ⟨rfl, rfl⟩ m
  | select => unfold csFall; split <;> exact .of_sameTables ⟨rfl, rfl⟩
  | deselect => unfold csRise; split <;> exact .of_sameTables ⟨rfl, rfl⟩
  | hold hc => exact .reset (congrArg some hc) ⟨rfl, rfl⟩
  | release => exact .of_sameTables ⟨rfl, rfl⟩

theorem step_tables {s t : State} (h : step s = .next t) : TablesResult s.pending.head? s t := by
  obtain ⟨-, rfl⟩ | ⟨c, rest, hp, hr⟩ := step_cases h
  · exact .traffic (traffic_idle s)
  · have htaken : TrafficMove s { s with pending := rest } := .elsewhere ⟨rfl, rfl⟩ ⟨rfl, rfl, rfl⟩
    rw [hp]
    cases hr.tables with
    | traffic h => exact .traffic (.head htaken h)
    | command s' u hs hmove ht => exact .command s' u hs hmove ht
    | reset hc ht => exact .reset hc ht

/-- A relation between the tables that the reset values meet and that every traffic move and every management command
keep is kept by every step. -/
theorem step_keeps_tables {P : State → Prop} (hsame : ∀ {s t}, SameTables s t → P s → P t)
    (htraffic : ∀ {s t}, TrafficMove s t → P s → P t) (hcommand : ∀ {s t}, CommandMove s t → P s → P t)
    (hreset : P State.reset) {s t : State} (h : step s = .next t) (hs : P s) : P t := by
  cases step_tables h with
  | traffic h => exact h.keeps htraffic hs
  | command s' u hs' hmove ht => exact hsame ht (hcommand hmove (hsame hs' hs))
  | reset _ ht => exact hsame ht hreset

end Sys2Proof.Proofs
end

section
/-! PROOF. The management port and the reset pin: every step keeps the frame receive state fit for its phase, and every
block at its reset values while RESET_N is low. -/

namespace Sys2Proof.Proofs

open Sys2Proof.Machine Sys2Proof.Safety Sys2Proof.Claims

/-! ### Frames fit for their phase -/

/-- The frame receive state fits its phase (R148): `FrameSound` without its clause on SM_CS_N. -/
def FrameFits (f : Frame) : Prop :=
  f.bitCount ≤ 7
    ∧ match f.phase with
      | .idle => f = Frame.idle
      | .command => f.code = none ∧ f.params = [] ∧ f.response = []
      | .parameters => (∃ c ∈ f.code, f.params.length < paramCount c) ∧ f.response = []
      | .response => f.response ≠ []
      | .trailing => f.response = []

theorem frameSound_iff (s : State) : FrameSound s ↔ (s.csN = true → s.mgp = Frame.idle) ∧ FrameFits s.mgp := Iff.rfl

theorem frameFits_idle : FrameFits Frame.idle := ⟨by decide, rfl⟩

theorem frameFits_begun : FrameFits Frame.begun := ⟨by decide, rfl, rfl, rfl⟩

theorem frameFits_expectParams {code : Byte} (h : paramCount code ≠ 0) : FrameFits (expectParams code) :=
  ⟨Nat.zero_le 7, ⟨code, rfl, Nat.pos_of_ne_zero h⟩, rfl⟩

theorem frameFits_answeredFrame (code : Byte) (params : List Byte) (r : Reply) :
    FrameFits (answeredFrame code params r) :=
  ⟨Nat.zero_le 7, List.cons_ne_nil _ _⟩

/-- Inside a frame, a bit that does not complete its byte leaves the frame fit (R148). -/
theorem FrameFits.countBit {f : Frame} (h : FrameFits f) (hphase : f.phase ≠ .idle) (hbits : f.bitCount < 7)
    (shift : Byte) : FrameFits { f with bitCount := f.bitCount + 1, shift := shift } := by
  obtain ⟨-, hfit⟩ := h
  refine ⟨hbits, ?_⟩
  cases hp : f.phase with
  | idle => exact absurd hp hphase
  | command | parameters | response | trailing => simpa [hp] using hfit

/-- A response byte sent leaves the next one, or TRAILING (R148). -/
theorem FrameFits.completeResponseByte {f : Frame} (hphase : f.phase = .response) :
    FrameFits (completeResponseByte f) := by
  unfold Machine.completeResponseByte
  split
  · exact ⟨Nat.zero_le 7, rfl⟩
  · rename_i hlen
    refine ⟨Nat.zero_le 7, ?_⟩
    simp only [hphase, ne_eq, ← List.length_eq_zero_iff, List.length_tail]
    omega

/-! ### Inside a frame -/

/-- In a frame, with SM_CS_N low, the soundness of the frame receive state is its fitness. -/
theorem frameSound_of_low {s : State} (hcs : s.csN = false) (h : FrameFits s.mgp) : FrameSound s :=
  (frameSound_iff s).2 ⟨fun hh => by simp [hcs] at hh, h⟩

theorem takeCommand_frameSound (c : Instr) {s : State} (h : FrameSound s) : FrameSound (takeCommand c s) := by
  obtain he | ⟨code, params, r, he, -⟩ := takeCommand_cases c s
  · rwa [he]
  · rw [he]
    exact frameSound_of_low rfl (frameFits_answeredFrame code params r)

theorem completeCommandByte_frameSound (code : Byte) {s : State} (hcs : s.csN = false) (h : FrameSound s) :
    FrameSound (completeCommandByte code s) := by
  obtain ⟨hp, he⟩ | he := completeCommandByte_cases code s
  · rw [he]
    exact frameSound_of_low hcs (frameFits_expectParams hp)
  · rw [he]
    exact takeCommand_frameSound _ h

theorem completeParamByte_frameSound (b : Byte) {s : State} (hcs : s.csN = false) (hphase : s.mgp.phase = .parameters)
    (h : FrameSound s) : FrameSound (completeParamByte b s) := by
  obtain ⟨-, -, hfit⟩ := (frameSound_iff s).1 h
  rw [hphase] at hfit
  obtain ⟨⟨code, hcode, hlen⟩, hresponse⟩ := hfit
  have hcode' : s.mgp.code = some code := hcode
  simp only [completeParamByte, hcode']
  split
  · exact takeCommand_frameSound _ h
  · refine frameSound_of_low hcs ⟨Nat.zero_le 7, ?_⟩
    simp only [withFrame_mgp, hphase]
    refine ⟨⟨code, rfl, ?_⟩, hresponse⟩
    simp only [List.length_append, List.length_singleton]
    omega

theorem clockEdge_frameSound (di : Bool) {s : State} (hcs : s.csN = false) (h : FrameSound s) :
    FrameSound (clockEdge di s) := by
  have hfits : FrameFits s.mgp := ((frameSound_iff s).1 h).2
  have hcount : s.mgp.phase ≠ .idle → s.mgp.bitCount < 7 → ∀ shift,
      FrameSound (s.withFrame { s.mgp with bitCount := s.mgp.bitCount + 1, shift := shift }) :=
    fun hphase hbits shift => frameSound_of_low hcs (hfits.countBit hphase hbits shift)
  cases hp : s.mgp.phase with
  | idle => simpa only [clockEdge, hp] using h
  | command =>
    simp only [clockEdge, hp]
    split
    · rename_i hbits; exact hp ▸ hcount (by simp [hp]) hbits _
    · exact completeCommandByte_frameSound _ hcs h
  | parameters =>
    simp only [clockEdge, hp]
    split
    · rename_i hbits; exact hp ▸ hcount (by simp [hp]) hbits _
    · exact completeParamByte_frameSound _ hcs hp h
  | response =>
    simp only [clockEdge, hp]
    split
    · rename_i hbits; exact hp ▸ hcount (by simp [hp]) hbits _
    · exact frameSound_of_low hcs (.completeResponseByte hp)
  | trailing =>
    simp only [clockEdge, hp]
    split
    · rename_i hbits; exact hp ▸ hcount (by simp [hp]) hbits _
    · obtain ⟨-, hresponse⟩ := hfits
      rw [hp] at hresponse
      exact frameSound_of_low hcs ⟨Nat.zero_le 7, hresponse⟩

/-! ### Every step keeps the frame state -/

theorem frameSound_of_samePort {s t : State} (hport : SamePort s t) (h : FrameSound s) : FrameSound t := by
  obtain ⟨hmgp, hcs, -⟩ := hport
  rw [frameSound_iff, hmgp, hcs]
  exact h

theorem frameSound_unlessReset {s : State} {f : State → State} (h : FrameSound s) (hf : FrameSound (f s)) :
    FrameSound (unlessReset s f) := by
  unfold unlessReset
  split
  · exact hf
  · exact h

theorem ExecResult.frameSound {c : Instr} {s t : State} (h : ExecResult c s t) (hs : FrameSound s) : FrameSound t := by
  obtain ⟨hidle, hfits⟩ := (frameSound_iff s).1 hs
  cases h with
  | traffic h => exact frameSound_of_samePort h.samePort hs
  | command m => exact frameSound_unlessReset hs (takeCommand_frameSound m hs)
  | commandByte code =>
    exact frameSound_unlessReset hs (completeCommandByte_frameSound code rfl (frameSound_of_low rfl hfits))
  | clock di =>
    refine frameSound_unlessReset hs ?_
    split
    · exact hs
    · rename_i hcs
      exact clockEdge_frameSound di (by simpa using hcs) hs
  | select =>
    unfold csFall
    split
    · refine frameSound_of_low rfl ?_
      show FrameFits (if s.resetN then Frame.begun else s.mgp)
      split
      · exact frameFits_begun
      · exact hfits
    · exact hs
  | deselect =>
    unfold csRise
    split
    · exact hs
    · exact (frameSound_iff _).2 ⟨fun _ => rfl, frameFits_idle⟩
  | hold _ => exact (frameSound_iff _).2 ⟨fun _ => rfl, frameFits_idle⟩
  | release => exact hs

theorem step_frameSound {s t : State} (h : step s = .next t) (hs : FrameSound s) : FrameSound t := by
  obtain ⟨-, rfl⟩ | ⟨c, rest, -, hr⟩ := step_cases h
  · exact frameSound_of_samePort (traffic_idle s).samePort hs
  · exact hr.frameSound hs

/-! ### Every step keeps the reset values while RESET_N is low -/

theorem takeCommand_resetN (c : Instr) (s : State) : (takeCommand c s).resetN = s.resetN := by
  obtain h | ⟨code, params, r, h, hmove⟩ := takeCommand_cases c s
  · rw [h]
  · rw [h, answer_resetN, hmove.resetN]

/-- While RESET_N is high, only RESET_N_LOW makes it low. -/
theorem ExecResult.resetN_of_high {c : Instr} {s t : State} (h : ExecResult c s t) (hs : s.resetN = true) :
    t.resetN = true ∨ t = holdInReset s := by
  cases h with
  | traffic h => obtain ⟨-, -, hr⟩ := h.samePort; exact .inl (hr.trans hs)
  | command m => rw [unlessReset_of_high hs]; exact .inl ((takeCommand_resetN m s).trans hs)
  | commandByte code =>
    rw [unlessReset_of_high hs]
    obtain ⟨-, h⟩ | h := completeCommandByte_cases code { s with csN := false }
    · simp only [h]; exact .inl hs
    · simp only [h]; exact .inl ((takeCommand_resetN _ _).trans hs)
  | clock di =>
    rw [unlessReset_of_high hs]
    split
    · exact .inl hs
    · obtain ⟨f, h⟩ | ⟨m, h⟩ := clockEdge_cases di s
      · rw [h]; exact .inl hs
      · rw [h]; exact .inl ((takeCommand_resetN m s).trans hs)
  | select => unfold csFall; split <;> exact .inl hs
  | deselect => unfold csRise; split <;> exact .inl hs
  | hold _ => exact .inr rfl
  | release => exact .inl rfl

/-- A state held in reset: the reset values, with what the outside holds. -/
def heldState (request : Option Access) (csN : Bool) (pending : List Instr) : State :=
  { State.reset with
    hsp := { HostSide.reset with request := request }
    csN := csN
    resetN := false
    pending := pending }

theorem holdInReset_eq (s : State) : holdInReset s = heldState s.hsp.request s.csN s.pending := rfl

theorem heldInReset_heldState (request : Option Access) (csN : Bool) (pending : List Instr) :
    HeldInReset (heldState request csN pending) := fun _ => rfl

/-- A command carried out in reset changes what the outside holds, or releases RESET_N (R124, R133, R146, R162). -/
theorem exec_heldState {c : Instr} {request : Option Access} {csN : Bool} {pending : List Instr} {t : State}
    (h : exec c (heldState request csN pending) = .next t) :
    t.resetN = true ∨ ∃ request' csN', t = heldState request' csN' pending := by
  cases c with
  | requestHandshake r =>
    cases h
    cases r with
    | none => exact .inr ⟨none, csN, rfl⟩
    | some a => exact .inr ⟨some a, csN, rfl⟩
  | smCsNFall => cases h; cases csN <;> exact .inr ⟨request, false, rfl⟩
  | smCsNRise => cases h; cases csN <;> exact .inr ⟨request, true, rfl⟩
  | resetNLow => cases h; exact .inr ⟨request, csN, rfl⟩
  | resetNRelease => cases h; exact .inl rfl
  | entryAnswered | issue | memoryResponse | expiry | getStatus | configure | ackNotice | setSurface | dropSurface
  | readSurface | setWindow | openWindow | closeWindow | resumeWindow | readWindow | fence | popFault | linkRecover
  | clearAll | unknownCommand | smSckRisingEdge => cases h; exact .inr ⟨request, csN, rfl⟩

/-- A step of a state held in reset. -/
theorem step_heldState {request : Option Access} {csN : Bool} {pending : List Instr} {t : State}
    (h : step (heldState request csN pending) = .next t) : HeldInReset t := by
  cases pending with
  | nil => cases h; exact heldInReset_heldState request csN []
  | cons c rest =>
    have hexec : exec c (heldState request csN rest) = .next t := h
    obtain hhigh | ⟨request', csN', rfl⟩ := exec_heldState hexec
    · exact fun hlow => by simp [hhigh] at hlow
    · exact heldInReset_heldState request' csN' rest

theorem step_heldInReset {s t : State} (h : step s = .next t) (hs : HeldInReset s) : HeldInReset t := by
  cases hr : s.resetN with
  | false =>
    rw [hs hr, holdInReset_eq] at h
    exact step_heldState h
  | true =>
    intro hlow
    obtain ⟨-, rfl⟩ | ⟨c, rest, -, hresult⟩ := step_cases h
    · obtain ⟨-, -, hkept⟩ := (traffic_idle s).samePort
      simp [hkept, hr] at hlow
    · obtain hhigh | rfl := hresult.resetN_of_high hr
      · simp [hhigh] at hlow
      · rfl

/-- Settles O60: the frame by the phases of an edge, the hold in reset by what a command can do at each level of
RESET_N. -/
theorem stepKeepsFrameAndResetHold : Obligations.StepKeepsFrameAndResetHold :=
  fun _ _ h => ⟨step_frameSound h, step_heldInReset h⟩

end Sys2Proof.Proofs
end

section
/-! PROOF. The single moves on the window table and the surface table: the windows and entries that each leaves, which
surfaces keep their geometry and which windows their generation. -/

namespace Sys2Proof.Proofs

open Sys2Proof.Machine Sys2Proof.Safety Sys2Proof.Claims

/-! ### What a move leaves in the tables -/

/-- A window's descriptor after one of its MOPs has left (R20). -/
def departed (w : Window) : Window := { w with inFlight := w.inFlight - 1 }

/-- A MOP leaves its window: the count falls, and a CLOSING window whose last MOP it was passes to STAGED, or to EMPTY
under a pending clear-all (R20, R29). -/
theorem leaveWindow_cases (i : Fin 16) (s : State) :
    (¬ ((s.window i).state = .closing ∧ (s.window i).inFlight ≤ 1)
        ∧ leaveWindow i s = s.withWindow i (departed (s.window i)))
      ∨ ((s.window i).state = .closing ∧ (s.window i).inFlight ≤ 1
          ∧ ((s.wt.clearAllPending = false ∧ leaveWindow i s = toStaged i (s.withWindow i (departed (s.window i))))
            ∨ (s.wt.clearAllPending = true
                ∧ leaveWindow i s = endClearAll (toEmpty i (s.withWindow i (departed (s.window i))))))) := by
  have hleave : leaveWindow i s = drain i (s.withWindow i (departed (s.window i))) := rfl
  by_cases hlast : (s.window i).state = .closing ∧ (s.window i).inFlight ≤ 1
  · obtain ⟨hstate, hcount⟩ := hlast
    have hzero : (s.window i).inFlight - 1 = 0 := by omega
    refine .inr ⟨hstate, hcount, ?_⟩
    cases hp : s.wt.clearAllPending with
    | false => exact .inl ⟨rfl, by simp [hleave, drain, departed, hstate, hzero, hp]⟩
    | true => exact .inr ⟨rfl, by simp [hleave, drain, departed, hstate, hzero, hp]⟩
  · refine .inl ⟨hlast, ?_⟩
    have hstays : ¬ ((s.window i).state = .closing ∧ (s.window i).inFlight - 1 = 0) := by
      rintro ⟨hstate, hcount⟩
      exact hlast ⟨hstate, by omega⟩
    simp [hleave, drain, departed, hstays]

@[simp] theorem endClearAll_window (s : State) (i : Fin 16) : (endClearAll s).window i = s.window i := by
  simp [State.window]

/-- The end of a clear-all empties every surface or none (R35). -/
theorem endClearAll_surface (s : State) (k : Fin 8) :
    (endClearAll s).surface k = s.surface k ∨ (endClearAll s).surface k = none := by
  obtain ⟨h, -⟩ | ⟨-, -, h⟩ := endClearAll_cases s
  · exact .inl (by rw [h])
  · exact .inr (by simp [h, State.surface])

/-- CLEAR_ALL empties a LIVE or HALTED window without MOPs and closes one with MOPs in flight (R34). -/
theorem cleared_of_matching {w : Window} (h : w.matching = true) :
    w.cleared = if w.inFlight = 0 then Window.emptied w.generation else { w with state := .closing } := by
  simp only [Window.matching, Bool.or_eq_true, decide_eq_true_eq] at h
  obtain h | h := h <;> simp only [Window.cleared, h]

@[simp] theorem startClearAll_window (s : State) (i : Fin 16) :
    (startClearAll s).window i = (s.window i).cleared := by
  simp [startClearAll, State.window]

@[simp] theorem startClearAll_surface (s : State) (k : Fin 8) :
    (startClearAll s).surface k
      = (s.surface k).map fun d => { d with refCount := d.refCount - releasedBy s.wt k } := by
  simp [startClearAll, State.surface]

@[simp] theorem reset_surface (k : Fin 8) : State.reset.surface k = none := by
  simp [State.reset, State.surface]

@[simp] theorem reset_window (i : Fin 16) : State.reset.window i = Window.emptied 0#8 := by
  simp [State.reset, State.window]

/-- A window closed by CLOSE_WINDOW is STAGED at once, or CLOSING with MOPs in flight (R28). -/
theorem closeOpen_cases (i : Fin 16) (s : State) :
    ((s.window i).inFlight = 0 ∧ closeOpen i s = toStaged i s)
      ∨ ((s.window i).inFlight ≠ 0 ∧ closeOpen i s = s.withWindow i { s.window i with state := .closing }) := by
  unfold closeOpen
  split
  · rename_i h; exact .inl ⟨h, rfl⟩
  · rename_i h; exact .inr ⟨h, rfl⟩

/-! ### Geometry of surfaces -/

/-- An entry is EMPTY afterwards, or DEFINED before with the same fields but the count. -/
def SameGeometry (before after : Option Surface) : Prop :=
  ∀ d' ∈ after, ∃ d ∈ before, { d' with refCount := d.refCount } = d

theorem SameGeometry.refl (d : Option Surface) : SameGeometry d d := fun d' h => ⟨d', h, rfl⟩

theorem SameGeometry.to_none (d : Option Surface) : SameGeometry d none := fun _ h => by cases h

theorem SameGeometry.map (d : Option Surface) (n : Surface → Nat) :
    SameGeometry d (d.map fun d => { d with refCount := n d }) := by
  intro d' h
  obtain ⟨d, hd, rfl⟩ := Option.mem_map.1 h
  exact ⟨d, hd, rfl⟩

theorem SameGeometry.trans {a b c : Option Surface} (h : SameGeometry a b) (h' : SameGeometry b c) :
    SameGeometry a c := by
  intro d'' hd''
  obtain ⟨d', hd', e'⟩ := h' d'' hd''
  obtain ⟨d, hd, e⟩ := h d' hd'
  refine ⟨d, hd, ?_⟩
  rw [← e'] at e
  exact e

/-- Every surface that is DEFINED afterwards was DEFINED before, with the same geometry. -/
def GeometryKept (s t : State) : Prop := ∀ k, SameGeometry (s.surface k) (t.surface k)

theorem GeometryKept.trans {s t u : State} (h : GeometryKept s t) (h' : GeometryKept t u) : GeometryKept s u :=
  fun k => (h k).trans (h' k)

theorem GeometryKept.of_surfaces {s t : State} (h : ∀ k, t.surface k = s.surface k) : GeometryKept s t :=
  fun k => by rw [h k]; exact .refl _

theorem GeometryKept.endClearAll {s t : State} (h : GeometryKept s t) : GeometryKept s (endClearAll t) := by
  intro k
  obtain hk | hk := endClearAll_surface t k
  · rw [hk]; exact h k
  · rw [hk]; exact .to_none _

theorem geometryKept_releaseClaim (k : Fin 8) (s : State) : GeometryKept s (releaseClaim k s) := by
  intro j
  rw [releaseClaim_surface]
  split
  · rename_i h; subst h; exact .map _ _
  · exact .refl _

theorem geometryKept_openClaim (k : Fin 8) (s : State) : GeometryKept s (openClaim k s) := by
  intro j
  rw [openClaim_surface]
  split
  · rename_i h; subst h; exact .map _ _
  · exact .refl _

theorem geometryKept_toStaged (i : Fin 16) (s : State) : GeometryKept s (toStaged i s) :=
  geometryKept_releaseClaim (s.window i).staged.surface s

theorem geometryKept_toEmpty (i : Fin 16) (s : State) : GeometryKept s (toEmpty i s) :=
  geometryKept_releaseClaim (s.window i).staged.surface s

theorem geometryKept_withWindow (i : Fin 16) (w : Window) (s : State) : GeometryKept s (s.withWindow i w) :=
  .of_surfaces fun _ => rfl

/-- Traffic defines no surface and changes no geometry. -/
theorem TrafficMove.geometryKept {s t : State} (h : TrafficMove s t) : GeometryKept s t := by
  cases h with
  | elsewhere h _ => exact .of_surfaces h.surface
  | leave i =>
    obtain ⟨-, h⟩ | ⟨-, -, ⟨-, h⟩ | ⟨-, h⟩⟩ := leaveWindow_cases i s
    · rw [h]; exact geometryKept_withWindow i _ s
    · rw [h]; exact (geometryKept_withWindow i _ s).trans (geometryKept_toStaged i _)
    · rw [h]; exact ((geometryKept_withWindow i _ s).trans (geometryKept_toEmpty i _)).endClearAll
  | halt i n _ => exact geometryKept_withWindow i _ s
  | accept i n _ => exact geometryKept_withWindow i _ s
  | turnAway i _ => exact geometryKept_withWindow i _ s

theorem Traffic.geometryKept {s t : State} (h : Traffic s t) : GeometryKept s t :=
  h.keeps (P := GeometryKept s) (fun move hs => hs.trans move.geometryKept) (.of_surfaces fun _ => rfl)

/-- A management command keeps every geometry, or is a SET_SURFACE that defines one entry, which was not pinned
(R8, R9). -/
theorem CommandMove.geometry {s t : State} (h : CommandMove s t) :
    GeometryKept s t
      ∨ ∃ k f p, pinned (s.surface k) = false ∧ geometryValid f p = true
          ∧ t = s.withSurface k (some (surfaceOf f p)) := by
  cases h with
  | elsewhere h _ => exact .inl (.of_surfaces h.surface)
  | define k f p _ hpinned hvalid => exact .inr ⟨k, f, p, hpinned, hvalid, rfl⟩
  | drop k d _ _ _ =>
    refine .inl fun j => ?_
    rw [surface_withSurface]
    split
    · exact .to_none _
    · exact .refl _
  | stage i kind sf p _ _ _ => exact .inl (geometryKept_withWindow i _ s)
  | opening i d _ _ _ _ _ =>
    exact .inl ((geometryKept_withWindow i _ s).trans (geometryKept_openClaim _ _))
  | close i _ _ =>
    obtain ⟨-, h⟩ | ⟨-, h⟩ := closeOpen_cases i s
    · rw [h]; exact .inl (geometryKept_toStaged i s)
    · rw [h]; exact .inl (geometryKept_withWindow i _ s)
  | resume i _ _ => exact .inl (geometryKept_withWindow i _ s)
  | clear _ =>
    have hstart : GeometryKept s (startClearAll s) := fun k => by rw [startClearAll_surface]; exact .map _ _
    exact .inl hstart.endClearAll

/-! ### Generations of windows -/

/-- Every window keeps its generation. -/
def GenerationsKept (s t : State) : Prop := ∀ i, (t.window i).generation = (s.window i).generation

theorem GenerationsKept.trans {s t u : State} (h : GenerationsKept s t) (h' : GenerationsKept t u) :
    GenerationsKept s u :=
  fun i => (h' i).trans (h i)

theorem GenerationsKept.of_windows {s t : State} (h : ∀ i, t.window i = s.window i) : GenerationsKept s t :=
  fun i => by rw [h i]

theorem generationsKept_withWindow {i : Fin 16} {w : Window} {s : State}
    (h : w.generation = (s.window i).generation) : GenerationsKept s (s.withWindow i w) := by
  intro j
  rw [window_withWindow]
  split
  · rename_i hj; subst hj; exact h
  · rfl

theorem generationsKept_toStaged (i : Fin 16) (s : State) : GenerationsKept s (toStaged i s) := by
  intro j
  rw [toStaged_window]
  split
  · rename_i hj; subst hj; rfl
  · rfl

theorem generationsKept_toEmpty (i : Fin 16) (s : State) : GenerationsKept s (toEmpty i s) := by
  intro j
  rw [toEmpty_window]
  split
  · rename_i hj; subst hj; rfl
  · rfl

theorem generationsKept_endClearAll (s : State) : GenerationsKept s (endClearAll s) := .of_windows (by simp)

theorem cleared_generation (w : Window) : w.cleared.generation = w.generation := by
  unfold Window.cleared
  split
  · rfl
  · rfl
  · split <;> rfl
  · split <;> rfl
  · rfl

/-- Traffic opens no window. -/
theorem TrafficMove.generationsKept {s t : State} (h : TrafficMove s t) : GenerationsKept s t := by
  cases h with
  | elsewhere h _ => exact .of_windows h.window
  | leave i =>
    have hdeparted : GenerationsKept s (s.withWindow i (departed (s.window i))) := generationsKept_withWindow rfl
    obtain ⟨-, h⟩ | ⟨-, -, ⟨-, h⟩ | ⟨-, h⟩⟩ := leaveWindow_cases i s
    · rw [h]; exact hdeparted
    · rw [h]; exact hdeparted.trans (generationsKept_toStaged i _)
    · rw [h]; exact (hdeparted.trans (generationsKept_toEmpty i _)).trans (generationsKept_endClearAll _)
  | halt i n _ => exact generationsKept_withWindow rfl
  | accept i n _ => exact generationsKept_withWindow rfl
  | turnAway i _ => exact generationsKept_withWindow rfl

theorem Traffic.generationsKept {s t : State} (h : Traffic s t) : GenerationsKept s t :=
  h.keeps (P := GenerationsKept s) (fun move hs => hs.trans move.generationsKept) fun _ => rfl

/-- A management command keeps every generation, or is an OPEN_WINDOW that takes one window from STAGED to LIVE with
the next generation (R18, R24). -/
theorem CommandMove.generations {s t : State} (h : CommandMove s t) :
    GenerationsKept s t
      ∨ ∃ i, (s.window i).state = .staged ∧ (t.window i).state = .live
          ∧ (t.window i).generation = (s.window i).generation + 1#8 ∧ ∀ j, j ≠ i → t.window j = s.window j := by
  cases h with
  | elsewhere h _ => exact .inl (.of_windows h.window)
  | define | drop => exact .inl (.of_windows fun _ => rfl)
  | stage i kind sf p _ _ _ => exact .inl (generationsKept_withWindow rfl)
  | opening i d _ hstaged _ _ _ =>
    refine .inr ⟨i, hstaged, ?_, ?_, fun j hj => ?_⟩
    · simp [Window.opened]
    · simp [Window.opened]
    · simp [Ne.symm hj]
  | close i _ _ =>
    obtain ⟨-, h⟩ | ⟨-, h⟩ := closeOpen_cases i s
    · rw [h]; exact .inl (generationsKept_toStaged i s)
    · rw [h]; exact .inl (generationsKept_withWindow rfl)
  | resume i _ _ => exact .inl (generationsKept_withWindow rfl)
  | clear _ =>
    have hstart : GenerationsKept s (startClearAll s) := fun i => by rw [startClearAll_window, cleared_generation]
    exact .inl (hstart.trans (generationsKept_endClearAll _))

/-! ### Generations and pinned geometry in a step -/

/-- A surface table entry that is pinned keeps its geometry while DEFINED, by a command or by traffic (R6, R8). -/
theorem CommandMove.pinned_geometry {s t : State} (h : CommandMove s t) {k : Fin 8} {d : Surface}
    (hd : s.surface k = some d) (hcount : d.refCount ≠ 0) : SameGeometry (s.surface k) (t.surface k) := by
  obtain h | ⟨j, f, p, hpinned, -, rfl⟩ := h.geometry
  · exact h k
  · have hne : j ≠ k := by
      rintro rfl
      simp [hd, pinned, hcount] at hpinned
    rw [surface_withSurface_ne s hne]
    exact .refl _

theorem SameGeometry.fields {before after : Option Surface} {d d' : Surface} (h : SameGeometry before after)
    (hd : before = some d) (hd' : after = some d') : { d' with refCount := d.refCount } = d := by
  obtain ⟨d₀, hd₀, e⟩ := h d' hd'
  obtain rfl : d = d₀ := Option.some.inj (hd.symm.trans hd₀)
  exact e

/-- Settles O49: traffic changes neither, and among the commands only OPEN_WINDOW changes a generation and only
SET_SURFACE a geometry, of an entry that is not pinned. -/
theorem generationAndPinnedGeometryAreStable : Obligations.GenerationAndPinnedGeometryAreStable := by
  intro s t hfront hstep
  cases step_tables hstep with
  | traffic h =>
    exact ⟨fun i => .inl (h.generationsKept i), fun k d d' hd hd' _ => (h.geometryKept k).fields hd hd'⟩
  | command s' u hs hmove ht =>
    refine ⟨fun i => ?_, fun k d d' hd hd' hcount => ?_⟩
    · rw [ht.window, ← hs.window i]
      obtain h | ⟨j, hstaged, hlive, hnext, hothers⟩ := hmove.generations
      · exact .inl (h i)
      · by_cases hij : i = j
        · subst hij; exact .inr ⟨hstaged, hlive, hnext⟩
        · rw [hothers i hij]; exact .inl rfl
    · rw [← hs.surface] at hd
      rw [ht.surface] at hd'
      exact (hmove.pinned_geometry hd hcount).fields hd hd'
  | reset h _ => exact absurd h hfront

end Sys2Proof.Proofs
end

section
/-! PROOF. Every step keeps the fields of every surface and window in the ranges of their state. -/

namespace Sys2Proof.Proofs

open Sys2Proof.Machine Sys2Proof.Safety Sys2Proof.Claims

/-! ### Surfaces -/

/-- Valid parameters define a sound descriptor (R10). -/
theorem surfaceSound_surfaceOf {f : PixelFormat} {p : SurfaceParams} (h : geometryValid f p = true) :
    SurfaceSound (surfaceOf f p) := by
  simp only [geometryValid, Bool.and_eq_true, decide_eq_true_eq, and_assoc] at h
  exact h

theorem surfaceSound_of_sameGeometry {before after : Option Surface} (h : SameGeometry before after)
    (hs : ∀ d ∈ before, SurfaceSound d) : ∀ d ∈ after, SurfaceSound d := by
  intro d' hd'
  obtain ⟨d, hd, e⟩ := h d' hd'
  have hsound := hs d hd
  rw [← e] at hsound
  exact hsound

theorem surfacesSound_of_geometryKept {s t : State} (h : GeometryKept s t) (hs : SurfacesSound s) : SurfacesSound t :=
  fun k => surfaceSound_of_sameGeometry (h k) (hs k)

theorem surfacesSound_withSurface {s : State} {k : Fin 8} {d : Surface} (hd : SurfaceSound d) (hs : SurfacesSound s) :
    SurfacesSound (s.withSurface k (some d)) := by
  intro j
  rw [surface_withSurface]
  split
  · intro d' hd'
    obtain rfl : d = d' := Option.some.inj hd'
    exact hd
  · exact hs j

theorem surfacesSound_reset : SurfacesSound State.reset := fun k d hd => by
  rw [reset_surface] at hd
  cases hd

theorem step_surfacesSound {s t : State} (h : step s = .next t) (hs : SurfacesSound s) : SurfacesSound t := by
  refine step_keeps_tables (P := SurfacesSound) ?_ ?_ ?_ surfacesSound_reset h hs
  · exact fun h => surfacesSound_of_geometryKept (.of_surfaces h.surface)
  · exact fun h => surfacesSound_of_geometryKept h.geometryKept
  · intro s t h hs
    obtain hkept | ⟨k, f, p, -, hvalid, rfl⟩ := h.geometry
    · exact surfacesSound_of_geometryKept hkept hs
    · exact surfacesSound_withSurface (surfaceSound_surfaceOf hvalid) hs

/-! ### One window -/

/-- The fields of a window that holds its surface: staged fields in range and derived fields that passed the range
check (R15, R17). -/
def InService (w : Window) : Prop :=
  StagedSound w.staged ∧ rangeFits w.derived ∧ ∃ f : PixelFormat, w.derived = deriveFields w.staged f

theorem windowSound_empty {w : Window} (h : w.state = .empty) : WindowSound w ↔ w = Window.emptied w.generation := by
  simp only [WindowSound, h]

theorem windowSound_staged {w : Window} (h : w.state = .staged) :
    WindowSound w ↔ StagedSound w.staged ∧ w.derived = Derived.zero ∧ w.inFlight = 0 := by
  simp only [WindowSound, h]

theorem windowSound_live {w : Window} (h : w.state = .live) : WindowSound w ↔ InService w := by
  simp only [WindowSound, InService, h]

theorem windowSound_halted {w : Window} (h : w.state = .halted) : WindowSound w ↔ InService w := by
  simp only [WindowSound, InService, h]

theorem windowSound_closing {w : Window} (h : w.state = .closing) :
    WindowSound w ↔ InService w ∧ w.inFlight ≠ 0 := by
  simp only [WindowSound, InService, h, and_assoc]

theorem windowSound_emptied (g : Byte) : WindowSound (Window.emptied g) := rfl

theorem inService_of_matching {w : Window} (h : WindowSound w) (hm : w.matching = true) : InService w := by
  simp only [Window.matching, Bool.or_eq_true, decide_eq_true_eq] at hm
  obtain hlive | hhalted := hm
  · exact (windowSound_live hlive).1 h
  · exact (windowSound_halted hhalted).1 h

/-- A window that matches accesses is sound whatever its counts. -/
theorem windowSound_of_matching {w w' : Window} (h : WindowSound w) (hm : w.matching = true)
    (hstate : w'.state = w.state) (hstaged : w'.staged = w.staged) (hderived : w'.derived = w.derived) :
    WindowSound w' := by
  have hservice : InService w' := by
    rw [InService, hstaged, hderived]
    exact inService_of_matching h hm
  simp only [Window.matching, Bool.or_eq_true, decide_eq_true_eq] at hm
  obtain hlive | hhalted := hm
  · exact (windowSound_live (hstate.trans hlive)).2 hservice
  · exact (windowSound_halted (hstate.trans hhalted)).2 hservice

/-- A MOP leaves a window that does not drain (R20). -/
theorem windowSound_departed {w : Window} (h : WindowSound w) (hstays : ¬ (w.state = .closing ∧ w.inFlight ≤ 1)) :
    WindowSound (departed w) := by
  cases hstate : w.state with
  | empty =>
    rw [(windowSound_empty hstate).1 h]
    rfl
  | staged =>
    obtain ⟨hstaged, hderived, hcount⟩ := (windowSound_staged hstate).1 h
    exact (windowSound_staged (w := departed w) hstate).2 ⟨hstaged, hderived, by simp [departed, hcount]⟩
  | live => exact windowSound_of_matching h (matching_of_live hstate) rfl rfl rfl
  | halted => exact windowSound_of_matching h (matching_of_halted hstate) rfl rfl rfl
  | closing =>
    obtain ⟨hservice, -⟩ := (windowSound_closing hstate).1 h
    refine (windowSound_closing (w := departed w) hstate).2 ⟨hservice, ?_⟩
    have hcount : ¬ w.inFlight ≤ 1 := fun hle => hstays ⟨hstate, hle⟩
    simp only [departed]
    omega

/-- A window without MOPs passes to STAGED (R28, R29). -/
theorem windowSound_toStaged {w : Window} (hstaged : StagedSound w.staged) (hcount : w.inFlight = 0) :
    WindowSound { w with state := .staged, derived := Derived.zero } :=
  ⟨hstaged, rfl, hcount⟩

/-- The clip that valid parameters store is ordered and in range (R16, R22). -/
theorem clipOf_sound {p : WindowParams} (h : (!p.options.getLsbD 0 || clipValid p) = true) :
    ∀ c ∈ clipOf p,
      c.left.toNat ≤ c.right.toNat ∧ c.right.toNat ≤ 4095 ∧ c.top.toNat ≤ c.bottom.toNat
        ∧ c.bottom.toNat ≤ 4095 := by
  intro c hc
  unfold clipOf at hc
  split at hc
  · rename_i hpresent
    obtain rfl := Option.some.inj hc
    simp only [hpresent, Bool.not_true, Bool.false_or, clipValid, Bool.and_eq_true, decide_eq_true_eq] at h
    obtain ⟨⟨⟨⟨⟨-, -⟩, hright⟩, hbottom⟩, hlr⟩, htb⟩ := h
    exact ⟨hlr, hright, htb, hbottom⟩
  · cases hc

/-- Valid parameters stage fields in range (R22). -/
theorem stagedSound_stagedOf {p : WindowParams} (kind : Kind) (sf : Fin 8) (h : windowFieldsValid p = true) :
    StagedSound (stagedOf kind sf p) := by
  simp only [windowFieldsValid, Bool.and_eq_true, decide_eq_true_eq] at h
  obtain ⟨⟨⟨⟨⟨⟨⟨⟨-, hbase⟩, hx⟩, hy⟩, hw1⟩, hw⟩, hh1⟩, hh⟩, hclip⟩ := h
  exact ⟨hbase, hx, hy, hw1, hw, hh1, hh, clipOf_sound hclip⟩

/-- SET_WINDOW stages sound fields in a window that holds no surface (R21). -/
theorem windowSound_stage {w : Window} (h : WindowSound w) (hfree : w.holds = false) {st : Staged}
    (hst : StagedSound st) : WindowSound { w with state := .staged, staged := st } := by
  cases hstate : w.state with
  | empty =>
    rw [(windowSound_empty hstate).1 h]
    exact ⟨hst, rfl, rfl⟩
  | staged =>
    obtain ⟨-, hderived, hcount⟩ := (windowSound_staged hstate).1 h
    exact ⟨hst, hderived, hcount⟩
  | live | halted | closing => simp [Window.holds, hstate] at hfree

/-- CLEAR_ALL leaves a window EMPTY, or CLOSING with MOPs in flight (R34). -/
theorem windowSound_cleared {w : Window} (h : WindowSound w) : WindowSound w.cleared := by
  have hopen : w.matching = true → WindowSound w.cleared := by
    intro hm
    rw [cleared_of_matching hm]
    split
    · exact windowSound_emptied _
    · rename_i hcount
      exact (windowSound_closing rfl).2 ⟨(inService_of_matching h hm :), hcount⟩
  cases hstate : w.state with
  | empty | staged => simpa only [Window.cleared, hstate] using windowSound_emptied _
  | live => exact hopen (matching_of_live hstate)
  | halted => exact hopen (matching_of_halted hstate)
  | closing => simpa only [Window.cleared, hstate] using h

/-! ### All windows -/

theorem windowsSound_of_windows {s t : State} (h : ∀ i, t.window i = s.window i) (hs : WindowsSound s) :
    WindowsSound t :=
  fun i => by rw [h i]; exact hs i

/-- One window changes to a sound one. -/
theorem windowsSound_update {s t : State} {i : Fin 16} (hs : ∀ j, j ≠ i → WindowSound (s.window j))
    (hothers : ∀ j, j ≠ i → t.window j = s.window j) (hi : WindowSound (t.window i)) : WindowsSound t := by
  intro j
  by_cases hj : j = i
  · subst hj; exact hi
  · rw [hothers j hj]; exact hs j hj

theorem windowsSound_withWindow {s : State} {i : Fin 16} {w : Window} (hs : WindowsSound s) (hw : WindowSound w) :
    WindowsSound (s.withWindow i w) :=
  windowsSound_update (s := s) (i := i) (fun j _ => hs j) (fun j hj => by simp [Ne.symm hj]) (by simpa using hw)

/-- The other windows stay at a passage to STAGED. -/
theorem windowsSound_toStaged {s : State} {i : Fin 16} (hs : ∀ j, j ≠ i → WindowSound (s.window j))
    (hstaged : StagedSound (s.window i).staged) (hcount : (s.window i).inFlight = 0) :
    WindowsSound (toStaged i s) :=
  windowsSound_update hs (fun j hj => by simp [toStaged_window, hj])
    (by simpa [toStaged_window] using windowSound_toStaged hstaged hcount)

theorem windowsSound_toEmpty {s : State} {i : Fin 16} (hs : ∀ j, j ≠ i → WindowSound (s.window j)) :
    WindowsSound (toEmpty i s) :=
  windowsSound_update hs (fun j hj => by simp [toEmpty_window, hj])
    (by simpa [toEmpty_window] using windowSound_emptied _)

theorem windowsSound_leaveWindow (i : Fin 16) {s : State} (hs : WindowsSound s) : WindowsSound (leaveWindow i s) := by
  have hothers : ∀ j, j ≠ i → WindowSound ((s.withWindow i (departed (s.window i))).window j) := by
    intro j hj
    rw [window_withWindow_ne s (Ne.symm hj)]
    exact hs j
  obtain ⟨hstays, h⟩ | ⟨hclosing, hlast, ⟨-, h⟩ | ⟨-, h⟩⟩ := leaveWindow_cases i s
  · rw [h]; exact windowsSound_withWindow hs (windowSound_departed (hs i) hstays)
  · obtain ⟨⟨hstaged, -⟩, -⟩ := (windowSound_closing hclosing).1 (hs i)
    rw [h]
    refine windowsSound_toStaged hothers (by simpa [departed] using hstaged) ?_
    simp only [window_withWindow_same, departed]
    omega
  · rw [h]
    exact windowsSound_of_windows (endClearAll_window _) (windowsSound_toEmpty hothers)

theorem TrafficMove.windowsSound {s t : State} (h : TrafficMove s t) (hs : WindowsSound s) : WindowsSound t := by
  cases h with
  | elsewhere h _ => exact windowsSound_of_windows h.window hs
  | leave i => exact windowsSound_leaveWindow i hs
  | halt i n hlive => exact windowsSound_withWindow hs ((windowSound_halted rfl).2 ((windowSound_live hlive).1 (hs i)))
  | accept i n hlive =>
    exact windowsSound_withWindow hs (windowSound_of_matching (hs i) (matching_of_live hlive) rfl rfl rfl)
  | turnAway i hm => exact windowsSound_withWindow hs (windowSound_of_matching (hs i) hm rfl rfl rfl)

theorem CommandMove.windowsSound {s t : State} (h : CommandMove s t) (hs : WindowsSound s) : WindowsSound t := by
  cases h with
  | elsewhere h _ => exact windowsSound_of_windows h.window hs
  | define | drop => exact windowsSound_of_windows (fun _ => rfl) hs
  | stage i kind sf p _ hvalid hfree =>
    exact windowsSound_withWindow hs (windowSound_stage (hs i) hfree (stagedSound_stagedOf kind sf hvalid))
  | opening i d _ hstaged _ hfits _ =>
    obtain ⟨hst, -, -⟩ := (windowSound_staged hstaged).1 (hs i)
    have hopened : WindowSound ((s.window i).opened (deriveFields (s.window i).staged d.format)) :=
      (windowSound_live rfl).2 ⟨hst, hfits, d.format, rfl⟩
    exact windowsSound_of_windows (fun _ => rfl) (windowsSound_withWindow hs hopened)
  | close i _ hm =>
    have hservice := inService_of_matching (hs i) hm
    obtain ⟨hcount, h⟩ | ⟨hcount, h⟩ := closeOpen_cases i s
    · rw [h]; exact windowsSound_toStaged (fun j _ => hs j) hservice.1 hcount
    · rw [h]; exact windowsSound_withWindow hs ((windowSound_closing rfl).2 ⟨hservice, hcount⟩)
  | resume i _ hhalted =>
    exact windowsSound_withWindow hs ((windowSound_live rfl).2 ((windowSound_halted hhalted).1 (hs i)))
  | clear _ =>
    intro i
    rw [endClearAll_window, startClearAll_window]
    exact windowSound_cleared (hs i)

theorem windowsSound_reset : WindowsSound State.reset := fun i => by
  rw [reset_window]
  exact windowSound_emptied _

theorem step_windowsSound {s t : State} (h : step s = .next t) (hs : WindowsSound s) : WindowsSound t :=
  step_keeps_tables (P := WindowsSound) (fun h => windowsSound_of_windows h.window) (fun h => h.windowsSound)
    (fun h => h.windowsSound) windowsSound_reset h hs

/-- Settles O52: the surfaces by the geometry that a move keeps, the windows move by move. -/
theorem stepKeepsDescriptorsSound : Obligations.StepKeepsDescriptorsSound :=
  fun _ _ h => ⟨step_surfacesSound h, step_windowsSound h⟩

end Sys2Proof.Proofs
end

section
/-! PROOF. Every step keeps each reference count equal to the number of windows that hold the surface, and a clear-all
pending only behind a CLOSING window. -/

namespace Sys2Proof.Proofs

open Sys2Proof.Machine Sys2Proof.Safety Sys2Proof.Claims

/-! ### Counting holders -/

/-- Does the window hold this surface (R7)? -/
def holdsOn (w : Window) (k : Fin 8) : Bool := w.holds && w.staged.surface = k

theorem holders_eq (s : State) (k : Fin 8) :
    holders s k = (List.finRange 16).countP fun i => holdsOn (s.window i) k := rfl

theorem holdsOn_of_holds {w : Window} (h : w.holds = true) (k : Fin 8) :
    holdsOn w k = decide (w.staged.surface = k) := by
  simp [holdsOn, h]

theorem holdsOn_of_not_holds {w : Window} (h : w.holds = false) (k : Fin 8) : holdsOn w k = false := by
  simp [holdsOn, h]

theorem holds_of_matching {w : Window} (h : w.matching = true) : w.holds = true := by
  simp only [Window.matching, Bool.or_eq_true, decide_eq_true_eq] at h
  obtain h | h := h <;> simp [Window.holds, h]

theorem holds_of_closing {w : Window} (h : w.state = .closing) : w.holds = true := by simp [Window.holds, h]

theorem not_holds_of_staged {w : Window} (h : w.state = .staged) : w.holds = false := by simp [Window.holds, h]

theorem not_holds_of_empty {w : Window} (h : w.state = .empty) : w.holds = false := by simp [Window.holds, h]

/-- A count over all indices after a change at one of them. -/
theorem countP_finRange_update {n : Nat} {p q : Fin n → Bool} (i : Fin n) (h : ∀ j, j ≠ i → q j = p j) :
    (List.finRange n).countP q + (p i).toNat = (List.finRange n).countP p + (q i).toNat := by
  have hperm := List.perm_cons_erase (List.mem_finRange i)
  have hothers : ((List.finRange n).erase i).countP q = ((List.finRange n).erase i).countP p := by
    refine List.countP_congr fun j hj => ?_
    rw [h j ((List.nodup_finRange n).mem_erase_iff.1 hj).1]
  have hbool : ∀ b : Bool, (if b = true then 1 else 0) = b.toNat := by decide
  rw [hperm.countP_eq q, hperm.countP_eq p, List.countP_cons, List.countP_cons, hothers, hbool, hbool]
  omega

/-- The holders of a surface after a change of one window. -/
theorem holders_update {s t : State} (i : Fin 16) (hothers : ∀ j, j ≠ i → t.window j = s.window j) (k : Fin 8) :
    holders t k + (holdsOn (s.window i) k).toNat = holders s k + (holdsOn (t.window i) k).toNat :=
  countP_finRange_update (p := fun j => holdsOn (s.window j) k) (q := fun j => holdsOn (t.window j) k) i
    fun j hj => by rw [hothers j hj]

/-- The windows that hold a surface do not depend on more than their states and staged fields. -/
theorem holders_congr {s t : State} (h : ∀ i k, holdsOn (t.window i) k = holdsOn (s.window i) k) (k : Fin 8) :
    holders t k = holders s k := by
  simp only [holders_eq, h]

theorem holders_eq_zero {s : State} (h : ∀ i, (s.window i).holds = false) (k : Fin 8) : holders s k = 0 := by
  rw [holders_eq, List.countP_eq_zero]
  intro i _
  simp [holdsOn_of_not_holds (h i)]

/-! ### Reference counts -/

@[simp] theorem refCountOf_none : refCountOf none = 0 := rfl

@[simp] theorem refCountOf_some (d : Surface) : refCountOf (some d) = d.refCount := rfl

theorem refCountOf_lowered (d : Option Surface) (n : Nat) :
    refCountOf (d.map fun d => { d with refCount := d.refCount - n }) = refCountOf d - n := by
  cases d with
  | none => exact (Nat.zero_sub n).symm
  | some d => rfl

theorem refCountOf_of_not_pinned {d : Option Surface} (h : pinned d = false) : refCountOf d = 0 := by
  cases d with
  | none => rfl
  | some d => simpa [pinned] using h

theorem refCountsExact_congr {s t : State} (hcounts : ∀ k, refCountOf (t.surface k) = refCountOf (s.surface k))
    (hholds : ∀ i k, holdsOn (t.window i) k = holdsOn (s.window i) k) (hs : RefCountsExact s) : RefCountsExact t :=
  fun k => by rw [hcounts k, hs k, holders_congr hholds k]

/-- One entry of the surface table changes without its count. -/
theorem refCountsExact_withSurface {s : State} {k : Fin 8} {d : Option Surface}
    (hcount : refCountOf d = refCountOf (s.surface k)) (hs : RefCountsExact s) :
    RefCountsExact (s.withSurface k d) := by
  refine refCountsExact_congr (s := s) (fun j => ?_) (fun _ _ => rfl) hs
  rw [surface_withSurface]
  split
  · rename_i h; subst h; exact hcount
  · rfl

/-- One window changes and holds what it held. -/
theorem refCountsExact_withWindow {s : State} {i : Fin 16} {w : Window}
    (hholds : w.holds = (s.window i).holds)
    (hsurface : w.staged.surface = (s.window i).staged.surface ∨ w.holds = false)
    (hs : RefCountsExact s) : RefCountsExact (s.withWindow i w) := by
  refine refCountsExact_congr (s := s) (fun _ => rfl) (fun j k => ?_) hs
  rw [window_withWindow]
  split
  · rename_i h
    subst h
    obtain hsame | hfree := hsurface
    · simp only [holdsOn, hholds, hsame]
    · rw [holdsOn_of_not_holds hfree, holdsOn_of_not_holds (hholds ▸ hfree)]
  · rfl

/-- A window that held its surface releases it: the count falls with the holders (R7). -/
theorem refCountsExact_release {s t : State} {i : Fin 16} (hothers : ∀ j, j ≠ i → t.window j = s.window j)
    (hbefore : (s.window i).holds = true) (hafter : (t.window i).holds = false)
    (hsurface : ∀ k, t.surface k = (releaseClaim (s.window i).staged.surface s).surface k) (hs : RefCountsExact s) :
    RefCountsExact t := by
  intro k
  have hcount := holders_update i hothers k
  rw [holdsOn_of_holds hbefore, holdsOn_of_not_holds hafter] at hcount
  rw [hsurface k, releaseClaim_surface]
  by_cases hk : k = (s.window i).staged.surface
  · subst hk
    rw [if_pos rfl, refCountOf_lowered, hs _]
    simp only [decide_true, Bool.toNat_true, Bool.toNat_false] at hcount
    omega
  · rw [if_neg hk, hs k]
    simp only [Ne.symm hk, decide_false, Bool.toNat_false] at hcount
    omega

theorem refCountsExact_toStaged {i : Fin 16} {s : State} (hholds : (s.window i).holds = true)
    (hs : RefCountsExact s) : RefCountsExact (toStaged i s) :=
  refCountsExact_release (fun j hj => by simp [toStaged_window, hj]) hholds
    (by simp [toStaged_window, Window.holds]) (toStaged_surface i · s) hs

theorem refCountsExact_toEmpty {i : Fin 16} {s : State} (hholds : (s.window i).holds = true)
    (hs : RefCountsExact s) : RefCountsExact (toEmpty i s) :=
  refCountsExact_release (fun j hj => by simp [toEmpty_window, hj]) hholds
    (by simp [toEmpty_window, Window.holds, Window.emptied]) (toEmpty_surface i · s) hs

/-- A STAGED window opens on its surface: the count rises with the holders (R7, R24). -/
theorem refCountsExact_open {s : State} {i : Fin 16} {d : Surface} (g : Derived)
    (hstaged : (s.window i).state = .staged) (hd : s.surface (s.window i).staged.surface = some d)
    (hs : RefCountsExact s) :
    RefCountsExact (openClaim (s.window i).staged.surface (s.withWindow i ((s.window i).opened g))) := by
  have hopened : ((s.window i).opened g).holds = true := rfl
  intro k
  have hcount := holders_update (s := s)
    (t := openClaim (s.window i).staged.surface (s.withWindow i ((s.window i).opened g))) i
    (fun j hj => by simp [Ne.symm hj]) k
  rw [openClaim_window, window_withWindow_same, holdsOn_of_not_holds (not_holds_of_staged hstaged),
    holdsOn_of_holds hopened, show ((s.window i).opened g).staged = (s.window i).staged from rfl] at hcount
  rw [openClaim_surface]
  by_cases hk : k = (s.window i).staged.surface
  · have hexact := hs k
    subst hk
    rw [hd, refCountOf_some] at hexact
    rw [if_pos rfl, surface_withWindow_other, hd, Option.map_some, refCountOf_some]
    simp only [decide_true, Bool.toNat_true, Bool.toNat_false] at hcount ⊢
    omega
  · rw [if_neg hk, surface_withWindow_other, hs k]
    simp only [Ne.symm hk, decide_false, Bool.toNat_false] at hcount
    omega

/-! ### Clear-all -/

/-- A window that CLEAR_ALL does not empty at once keeps its surface until it drains (R34). -/
theorem holdsOn_cleared (w : Window) (k : Fin 8) : holdsOn w.cleared k = (holdsOn w k && !w.clearedAtOnce) := by
  have hemptied : holdsOn (Window.emptied w.generation) k = false := holdsOn_of_not_holds rfl k
  have hopen : w.matching = true → holdsOn w.cleared k = (holdsOn w k && !w.clearedAtOnce) := by
    intro hm
    rw [cleared_of_matching hm, Window.clearedAtOnce, hm]
    by_cases hcount : w.inFlight = 0
    · simp [hcount, hemptied]
    · rw [if_neg hcount, holdsOn_of_holds (holds_of_closing rfl), holdsOn_of_holds (holds_of_matching hm)]
      simp [hcount]
  cases hstate : w.state with
  | empty => simp [Window.cleared, hstate, hemptied, holdsOn_of_not_holds (not_holds_of_empty hstate)]
  | staged => simp [Window.cleared, hstate, hemptied, holdsOn_of_not_holds (not_holds_of_staged hstate)]
  | live => exact hopen (matching_of_live hstate)
  | halted => exact hopen (matching_of_halted hstate)
  | closing => simp [Window.cleared, Window.clearedAtOnce, Window.matching, hstate]

/-- Only windows that hold the surface release it at a CLEAR_ALL. -/
theorem clearedAtOnce_surface (w : Window) (k : Fin 8) :
    (w.clearedAtOnce && decide (w.staged.surface = k)) = (holdsOn w k && w.clearedAtOnce) := by
  cases hc : w.clearedAtOnce with
  | false => simp
  | true =>
    simp only [Window.clearedAtOnce, Bool.and_eq_true] at hc
    simp [holdsOn_of_holds (holds_of_matching hc.1)]

/-- The holders that a CLEAR_ALL leaves are those that it does not make release (R7, R34). -/
theorem holders_startClearAll (s : State) (k : Fin 8) :
    holders (startClearAll s) k = holders s k - releasedBy s.wt k := by
  have hleft : holders (startClearAll s) k
      = (List.finRange 16).countP fun i => holdsOn (s.window i) k && !(s.window i).clearedAtOnce := by
    simp only [holders_eq, startClearAll_window, holdsOn_cleared]
  have hreleased : releasedBy s.wt k
      = (List.finRange 16).countP fun i => holdsOn (s.window i) k && (s.window i).clearedAtOnce :=
    List.countP_congr fun i _ => by
      rw [← clearedAtOnce_surface]
      rfl
  have hsplit := List.countP_eq_countP_filter_add (List.finRange 16) (fun i => holdsOn (s.window i) k)
    fun i => (s.window i).clearedAtOnce
  rw [List.countP_filter, List.countP_filter] at hsplit
  rw [hleft, hreleased, holders_eq, hsplit]
  omega

theorem refCountsExact_startClearAll {s : State} (hs : RefCountsExact s) : RefCountsExact (startClearAll s) :=
  fun k => by rw [startClearAll_surface, refCountOf_lowered, hs k, holders_startClearAll]

theorem cleared_state (w : Window) : w.cleared.state = .empty ∨ w.cleared.state = .closing := by
  cases hstate : w.state with
  | empty | staged => exact .inl (by simp [Window.cleared, hstate, Window.emptied])
  | live | halted => by_cases hcount : w.inFlight = 0 <;> simp [Window.cleared, hstate, hcount, Window.emptied]
  | closing => exact .inr (by simp [Window.cleared, hstate])

theorem anyClosing_iff (s : State) : anyClosing s.wt = true ↔ ∃ i, (s.window i).state = .closing := by
  simp [anyClosing, State.window]

theorem clearAllSound_of_not_pending {s : State} (h : s.wt.clearAllPending = false) : ClearAllSound s :=
  fun hp => by simp [h] at hp

/-- The end of a clear-all, where it is due: with every window EMPTY no surface is held (R13, R35). -/
theorem tablesSound_endClearAll {s : State}
    (hstates : ∀ i, (s.window i).state = .empty ∨ (s.window i).state = .closing) (hs : RefCountsExact s) :
    TablesSound (endClearAll s) := by
  obtain ⟨h, hdue⟩ | ⟨-, hnone, h⟩ := endClearAll_cases s
  · rw [h]
    refine ⟨fun hp => ⟨hstates, (anyClosing_iff s).1 ?_⟩, hs⟩
    simpa [show s.wt.clearAllPending = true from hp] using hdue
  · have hfree : ∀ i, ((endClearAll s).window i).holds = false := by
      intro i
      rw [endClearAll_window]
      refine not_holds_of_empty ((hstates i).resolve_right fun hclosing => ?_)
      simp [(anyClosing_iff s).2 ⟨i, hclosing⟩] at hnone
    refine ⟨clearAllSound_of_not_pending (by rw [h]), fun k => ?_⟩
    rw [holders_eq_zero hfree]
    simp [h, State.surface]

/-! ### Every move keeps the tables sound -/

/-- A move changes counts of windows alone. -/
theorem tablesSound_withWindow {s : State} {i : Fin 16} {w : Window} (hstate : w.state = (s.window i).state)
    (hstaged : w.staged = (s.window i).staged) (hs : TablesSound s) : TablesSound (s.withWindow i w) := by
  obtain ⟨hclear, hexact⟩ := hs
  have hstates : ∀ j, ((s.withWindow i w).window j).state = (s.window j).state := by
    intro j
    rw [window_withWindow]
    split
    · rename_i hj; subst hj; exact hstate
    · rfl
  refine ⟨fun hp => ?_, refCountsExact_withWindow ?_ (.inl (by rw [hstaged])) hexact⟩
  · simp only [hstates]
    exact hclear hp
  · simp only [Window.holds, hstate]

theorem tablesSound_leaveWindow (i : Fin 16) {s : State} (hs : TablesSound s) : TablesSound (leaveWindow i s) := by
  have hdeparted : TablesSound (s.withWindow i (departed (s.window i))) := tablesSound_withWindow rfl rfl hs
  have hholds : (s.window i).state = .closing → ((s.withWindow i (departed (s.window i))).window i).holds = true := by
    intro hclosing
    rw [window_withWindow_same]
    exact holds_of_closing hclosing
  obtain ⟨-, h⟩ | ⟨hclosing, -, ⟨hp, h⟩ | ⟨hp, h⟩⟩ := leaveWindow_cases i s
  · rw [h]; exact hdeparted
  · rw [h]
    exact ⟨clearAllSound_of_not_pending (by simpa using hp), refCountsExact_toStaged (hholds hclosing) hdeparted.2⟩
  · rw [h]
    refine tablesSound_endClearAll (fun j => ?_) (refCountsExact_toEmpty (hholds hclosing) hdeparted.2)
    rw [toEmpty_window]
    split
    · exact .inl rfl
    · exact (hdeparted.1 (by simpa using hp)).1 j

theorem tablesSound_of_sameTables {s t : State} (h : SameTables s t) (hs : TablesSound s) : TablesSound t := by
  obtain ⟨hclear, hexact⟩ := hs
  refine ⟨fun hp => ?_, refCountsExact_congr (fun k => by rw [h.surface]) (fun i k => by rw [h.window]) hexact⟩
  simp only [h.window]
  exact hclear (h.clearAllPending ▸ hp)

theorem TrafficMove.tablesSound {s t : State} (h : TrafficMove s t) (hs : TablesSound s) : TablesSound t := by
  cases h with
  | elsewhere h _ => exact tablesSound_of_sameTables h hs
  | leave i => exact tablesSound_leaveWindow i hs
  | halt i n hlive =>
    obtain ⟨hclear, hexact⟩ := hs
    refine ⟨fun hp => ?_, refCountsExact_withWindow ?_ (.inl rfl) hexact⟩
    · obtain h | h := (hclear hp).1 i <;> simp [hlive] at h
    · rw [holds_of_matching (matching_of_live hlive)]
      rfl
  | accept i n _ => exact tablesSound_withWindow rfl rfl hs
  | turnAway i _ => exact tablesSound_withWindow rfl rfl hs

/-- A command that passed the BUSY check and is not CLEAR_ALL leaves no clear-all pending. -/
theorem CommandMove.tablesSound {s t : State} (h : CommandMove s t) (hs : TablesSound s) : TablesSound t := by
  have hexact := hs.2
  cases h with
  | elsewhere h _ => exact tablesSound_of_sameTables h hs
  | define k f p hp hpinned _ =>
    exact ⟨clearAllSound_of_not_pending hp,
      refCountsExact_withSurface (refCountOf_of_not_pinned hpinned).symm hexact⟩
  | drop k d hp hd hcount =>
    exact ⟨clearAllSound_of_not_pending hp, refCountsExact_withSurface (by simp [hd, hcount]) hexact⟩
  | stage i kind sf p hp _ hfree =>
    exact ⟨clearAllSound_of_not_pending hp, refCountsExact_withWindow hfree.symm (.inr rfl) hexact⟩
  | opening i d hp hstaged hd _ _ =>
    exact ⟨clearAllSound_of_not_pending hp, refCountsExact_open _ hstaged hd hexact⟩
  | close i hp hm =>
    have hholds := holds_of_matching hm
    obtain ⟨-, h⟩ | ⟨-, h⟩ := closeOpen_cases i s
    · rw [h]; exact ⟨clearAllSound_of_not_pending hp, refCountsExact_toStaged hholds hexact⟩
    · rw [h]; exact ⟨clearAllSound_of_not_pending hp, refCountsExact_withWindow hholds.symm (.inl rfl) hexact⟩
  | resume i hp hhalted =>
    have hholds := holds_of_matching (matching_of_halted hhalted)
    exact ⟨clearAllSound_of_not_pending hp, refCountsExact_withWindow hholds.symm (.inl rfl) hexact⟩
  | clear _ =>
    refine tablesSound_endClearAll (fun i => ?_) (refCountsExact_startClearAll hexact)
    rw [startClearAll_window]
    exact cleared_state _

theorem tablesSound_reset : TablesSound State.reset := by
  refine ⟨clearAllSound_of_not_pending rfl, fun k => ?_⟩
  rw [reset_surface, holders_eq_zero fun i => by rw [reset_window]; rfl]
  rfl

/-- Settles O54, move by move: a count changes with the one window that opens or releases, and the end of a clear-all
finds every window EMPTY. -/
theorem stepKeepsReferenceCountsExact : Obligations.StepKeepsReferenceCountsExact :=
  fun _ _ hs h =>
    step_keeps_tables (P := TablesSound) tablesSound_of_sameTables (fun h => h.tablesSound)
      (fun h => h.tablesSound) tablesSound_reset h hs

end Sys2Proof.Proofs
end

section
/-! PROOF. The surface commands SET_SURFACE, DROP_SURFACE and READ_SURFACE: their checks in order and their answers. -/

namespace Sys2Proof.Proofs

open Sys2Proof.Machine Sys2Proof.Safety Sys2Proof.Claims

/-! ### The commands outside reset -/

theorem exec_setSurface {s : State} (h : s.resetN = true) (p : SurfaceParams) :
    exec (.setSurface p) s = .next (answer 0x20#8 (surfaceParamBytes p) (setSurfaceReply p s)) :=
  congrArg Host.Outcome.next (unlessReset_of_high h _)

theorem exec_dropSurface {s : State} (h : s.resetN = true) (index : Byte) :
    exec (.dropSurface index) s = .next (answer 0x21#8 [index] (dropSurfaceReply index s)) :=
  congrArg Host.Outcome.next (unlessReset_of_high h _)

theorem exec_readSurface {s : State} (h : s.resetN = true) (index : Byte) :
    exec (.readSurface index) s = .next (answer 0x22#8 [index] (readSurfaceReply index s)) :=
  congrArg Host.Outcome.next (unlessReset_of_high h _)

/-! ### Indices, formats and geometry -/

theorem surfaceIndex_eq_some_iff {b : Byte} {k : Fin 8} : surfaceIndex b = some k ↔ k.val = b.toNat := by
  unfold surfaceIndex
  split
  · simp [Fin.ext_iff, eq_comm]
  · have := k.isLt
    simp only [reduceCtorEq, false_iff]
    omega

theorem surfaceIndex_eq_none_iff {b : Byte} : surfaceIndex b = none ↔ 7 < b.toNat := by
  unfold surfaceIndex
  split
  · simp only [reduceCtorEq, false_iff]
    omega
  · simp only [true_iff]
    omega

/-- A format code is the bytes per pixel of its format (R1). -/
theorem formatOfCode_eq_some_iff {c : Byte} {f : PixelFormat} : formatOfCode c = some f ↔ f.bpp = c.toNat := by
  have hcode : ∀ n : Byte, c = n ↔ n.toNat = c.toNat := fun n => by rw [eq_comm, BitVec.toNat_inj]
  unfold formatOfCode
  simp only [hcode, show (1#8).toNat = 1 from rfl, show (2#8).toNat = 2 from rfl, show (4#8).toNat = 4 from rfl]
  cases f <;> simp only [PixelFormat.bpp] <;> split_ifs <;> simp <;> omega

theorem bpp_values (f : PixelFormat) : f.bpp = 1 ∨ f.bpp = 2 ∨ f.bpp = 4 := by cases f <;> simp [PixelFormat.bpp]

/-- For an index and a format that exist, the parameters are valid when their geometry is (R10). -/
theorem surfaceFieldsValid_iff {p : SurfaceParams} {k : Fin 8} {f : PixelFormat} (hk : k.val = p.index.toNat)
    (hf : f.bpp = p.format.toNat) : SurfaceFieldsValid p ↔ geometryValid f p = true := by
  have hindex : p.index.toNat ≤ 7 := by have := k.isLt; omega
  have hformat : p.format = 1#8 ∨ p.format = 2#8 ∨ p.format = 4#8 := by
    simp only [← BitVec.toNat_inj, ← hf]
    exact bpp_values f
  simp only [geometryValid, Bool.and_eq_true, decide_eq_true_eq]
  simp only [SurfaceFieldsValid, Config.addrMax, Nat.dvd_iff_mod_eq_zero, ← hf, hindex, hformat, true_and]
  tauto

theorem checkSurface_eq_none {p : SurfaceParams} (h : ¬ SurfaceFieldsValid p) : checkSurface p = none := by
  cases hc : checkSurface p with
  | none => rfl
  | some kd =>
    obtain ⟨f, hk, hf, hg, -⟩ := checkSurface_some hc
    exact absurd ((surfaceFieldsValid_iff (surfaceIndex_eq_some_iff.1 hk) (formatOfCode_eq_some_iff.1 hf)).2 hg) h

theorem checkSurface_eq_some {p : SurfaceParams} {k : Fin 8} {f : PixelFormat} (h : SurfaceFieldsValid p)
    (hk : k.val = p.index.toNat) (hf : f.bpp = p.format.toNat) : checkSurface p = some (k, surfaceOf f p) := by
  simp [checkSurface, surfaceIndex_eq_some_iff.2 hk, formatOfCode_eq_some_iff.2 hf,
    (surfaceFieldsValid_iff hk hf).1 h]

theorem exists_format_of_valid {p : SurfaceParams} (h : SurfaceFieldsValid p) :
    ∃ f : PixelFormat, f.bpp = p.format.toNat := by
  obtain ⟨-, h | h | h, -⟩ := h
  · exact ⟨.p8, by rw [h]; rfl⟩
  · exact ⟨.p16, by rw [h]; rfl⟩
  · exact ⟨.p32, by rw [h]; rfl⟩

theorem pinned_iff {d : Option Surface} : pinned d = true ↔ 1 ≤ refCountOf d := by
  cases d with
  | none => simp [pinned, refCountOf]
  | some d => simp [pinned, refCountOf, Nat.one_le_iff_ne_zero]

/-! ### SET_SURFACE -/

theorem setSurfaceReply_busy {s : State} (p : SurfaceParams) (h : s.wt.clearAllPending = true) :
    setSurfaceReply p s = refuse s .busy := by
  simp [setSurfaceReply, h]

theorem setSurfaceReply_badArg {s : State} {p : SurfaceParams} (h : s.wt.clearAllPending = false)
    (hp : ¬ SurfaceFieldsValid p) : setSurfaceReply p s = refuse s .badArg := by
  simp [setSurfaceReply, h, checkSurface_eq_none hp]

/-- SET_SURFACE with valid parameters: PINNED, or the entry is DEFINED (R9). -/
theorem setSurfaceReply_valid {s : State} {p : SurfaceParams} {k : Fin 8} {f : PixelFormat}
    (h : s.wt.clearAllPending = false) (hp : SurfaceFieldsValid p) (hk : k.val = p.index.toNat)
    (hf : f.bpp = p.format.toNat) :
    setSurfaceReply p s
      = if pinned (s.surface k) then refuse s .pinned else done (s.withSurface k (some (surfaceOf f p))) [] := by
  simp [setSurfaceReply, h, checkSurface_eq_some hp hk hf]

/-- Settles O10, by the checks of SET_SURFACE in order. -/
theorem setSurfaceDefinesOrRefuses : Obligations.SetSurfaceDefinesOrRefuses := by
  intro p s hreset
  rw [exec_setSurface hreset]
  refine ⟨fun hbusy => ?_, fun hidle hbad => ?_, fun hidle hvalid k hk => ⟨fun hcount => ?_, fun hcount f hf => ?_⟩⟩
  · rw [setSurfaceReply_busy p hbusy]; rfl
  · rw [setSurfaceReply_badArg hidle hbad]; rfl
  · obtain ⟨f, hf⟩ := exists_format_of_valid hvalid
    rw [setSurfaceReply_valid hidle hvalid hk hf, if_pos (pinned_iff.2 hcount)]
    rfl
  · have hfree : ¬ pinned (s.surface k) = true := fun hpinned => by
      have := pinned_iff.1 hpinned
      omega
    rw [setSurfaceReply_valid hidle hvalid hk hf, if_neg hfree]
    rfl

/-! ### DROP_SURFACE and READ_SURFACE -/

theorem dropSurfaceReply_busy {s : State} (index : Byte) (h : s.wt.clearAllPending = true) :
    dropSurfaceReply index s = refuse s .busy := by
  simp [dropSurfaceReply, h]

theorem dropSurfaceReply_badArg {s : State} {index : Byte} (h : s.wt.clearAllPending = false)
    (hindex : 7 < index.toNat) : dropSurfaceReply index s = refuse s .badArg := by
  simp [dropSurfaceReply, h, surfaceIndex_eq_none_iff.2 hindex]

theorem dropSurfaceReply_empty {s : State} {index : Byte} {k : Fin 8} (h : s.wt.clearAllPending = false)
    (hk : k.val = index.toNat) (hd : s.surface k = none) : dropSurfaceReply index s = refuse s .badState := by
  simp [dropSurfaceReply, h, surfaceIndex_eq_some_iff.2 hk, hd]

/-- DROP_SURFACE of a DEFINED entry: PINNED, or the entry is EMPTY (R11). -/
theorem dropSurfaceReply_defined {s : State} {index : Byte} {k : Fin 8} {d : Surface}
    (h : s.wt.clearAllPending = false) (hk : k.val = index.toNat) (hd : s.surface k = some d) :
    dropSurfaceReply index s = if d.refCount ≠ 0 then refuse s .pinned else done (s.withSurface k none) [] := by
  simp only [dropSurfaceReply, h, surfaceIndex_eq_some_iff.2 hk, hd]
  rfl

theorem readSurfaceReply_badArg {index : Byte} (s : State) (hindex : 7 < index.toNat) :
    readSurfaceReply index s = refuse s .badArg := by
  simp [readSurfaceReply, surfaceIndex_eq_none_iff.2 hindex]

theorem readSurfaceReply_eq {index : Byte} {k : Fin 8} (s : State) (hk : k.val = index.toNat) :
    readSurfaceReply index s = done s (surfaceBytes (s.surface k)) := by
  simp [readSurfaceReply, surfaceIndex_eq_some_iff.2 hk]

/-- Settles O11, by the checks of the two commands in order. -/
theorem dropAndReadSurfaceAnswer : Obligations.DropAndReadSurfaceAnswer := by
  intro index s hreset
  rw [exec_dropSurface hreset, exec_readSurface hreset]
  refine ⟨fun hbusy => ?_, fun hidle hindex => ?_, fun k hk hidle => ⟨fun hd => ?_, fun d hd hcount => ?_,
    fun d hd hcount => ?_⟩, fun hindex => ?_, fun k hk => ⟨fun hd => ?_, fun d hd => ?_⟩⟩
  · rw [dropSurfaceReply_busy index hbusy]; rfl
  · rw [dropSurfaceReply_badArg hidle hindex]; rfl
  · rw [dropSurfaceReply_empty hidle hk hd]; rfl
  · rw [dropSurfaceReply_defined hidle hk hd, if_pos (by omega)]; rfl
  · rw [dropSurfaceReply_defined hidle hk hd, if_neg (by omega)]; rfl
  · rw [readSurfaceReply_badArg s hindex]; rfl
  · rw [readSurfaceReply_eq s hk, hd]; rfl
  · rw [readSurfaceReply_eq s hk, hd]; rfl

end Sys2Proof.Proofs
end

section
/-! PROOF. Pixels: where a sound surface puts them, and what the combine of a COVERAGE write leaves at their bytes. -/

namespace Sys2Proof.Proofs

open Sys2Proof.Machine Sys2Proof.Safety Sys2Proof.Claims

/-! ### Pixels of a sound surface -/

/-- A pixel's address is a multiple of its size (R5, R60). -/
theorem pixelAddr_mod_bpp {d : Surface} (h : SurfaceSound d) (x y : Nat) : pixelAddr d x y % d.format.bpp = 0 := by
  obtain ⟨hbase, -, -, hpitch, -⟩ := h
  have hdvd : d.format.bpp ∣ 4 := by cases d.format <;> decide
  have hbase' : d.format.bpp ∣ d.base.toNat :=
    hdvd.trans ((by decide : 4 ∣ 64).trans (Nat.dvd_of_mod_eq_zero hbase))
  have hpitch' : d.format.bpp ∣ d.pitch.toNat := hdvd.trans (Nat.dvd_of_mod_eq_zero hpitch)
  exact Nat.mod_eq_zero_of_dvd
    (((hbase'.add (hpitch'.mul_left y))).add (Nat.dvd_mul_left _ x))

/-- An aligned pixel lies in one block (R60). -/
theorem pixel_in_block {f : PixelFormat} {a : Nat} (h : a % f.bpp = 0) : a % 64 + f.bpp ≤ 64 := by
  cases f <;> simp only [PixelFormat.bpp] at * <;> omega

/-- The last byte of a pixel lies at or below the last byte of the surface (R5). -/
theorem pixelAddr_le_extent {d : Surface} {x y : Nat} (hx : x < d.width.toNat) (hy : y < d.height.toNat) :
    pixelAddr d x y + d.format.bpp
      ≤ d.base.toNat + d.pitch.toNat * (d.height.toNat - 1) + d.width.toNat * d.format.bpp := by
  have hrow : y * d.pitch.toNat ≤ d.pitch.toNat * (d.height.toNat - 1) := by
    rw [Nat.mul_comm]
    exact Nat.mul_le_mul_left _ (by omega)
  have hcolumn : x * d.format.bpp + d.format.bpp ≤ d.width.toNat * d.format.bpp := by
    rw [← Nat.succ_mul]
    exact Nat.mul_le_mul_right _ hx
  unfold pixelAddr
  omega

/-- Settles O30: the address is a multiple of the pixel's size, and the extent check bounds the last byte. -/
theorem surfacePixelsStayInOneBlock : Obligations.SurfacePixelsStayInOneBlock := by
  intro d x y h hx hy
  refine ⟨pixel_in_block (pixelAddr_mod_bpp h x y), ?_⟩
  obtain ⟨-, -, -, -, -, -, -, -, -, hextent⟩ := h
  have hlast := pixelAddr_le_extent hx hy
  simp only [Config.addrMax] at hextent
  omega

/-! ### Bytes of pixel values -/

/-- Byte `k` of a word, by division (R2). -/
theorem wordByte_eq_leByte (v : Word) (k : Nat) : wordByte v k = leByte v k := by
  apply BitVec.eq_of_toNat_eq
  simp only [wordByte, leByte, BitVec.extractLsb'_toNat, BitVec.toNat_ofNat, Nat.shiftRight_eq_div_pow, Nat.pow_mul]

/-- The bytes put together least significant first are the number that they write in base 256 (R2). -/
theorem littleEndian_toNat (b : Nat → Byte) : ∀ n ≤ 4,
    ((List.range n).foldl (fun v k => v ||| ((b k).setWidth 32 <<< (8 * k))) 0#32).toNat
        = ((List.range n).map fun k => (b k).toNat * 256 ^ k).sum
      ∧ ((List.range n).map fun k => (b k).toNat * 256 ^ k).sum < 256 ^ n
  | 0, _ => by simp
  | n + 1, hn => by
    obtain ⟨hvalue, hbound⟩ := littleEndian_toNat b n (by omega)
    have hbyte : (b n).toNat < 256 := (b n).isLt
    have hpow : 256 ^ n = 2 ^ (8 * n) := by rw [Nat.pow_mul]
    have hstep : 256 ^ (n + 1) = 256 * 256 ^ n := Nat.pow_succ'
    have htop : ((b n).toNat + 1) * 256 ^ n ≤ 256 * 256 ^ n := Nat.mul_le_mul_right _ hbyte
    rw [Nat.add_mul, Nat.one_mul] at htop
    have hword : 256 ^ (n + 1) ≤ 2 ^ 32 := by
      calc 256 ^ (n + 1) ≤ 256 ^ 4 := Nat.pow_le_pow_right (by norm_num) hn
        _ = 2 ^ 32 := by norm_num
    have hpos : 0 < 256 ^ n := Nat.pow_pos (by norm_num)
    have hshift : ((b n).setWidth 32 <<< (8 * n)).toNat = 2 ^ (8 * n) * (b n).toNat := by
      rw [BitVec.toNat_shiftLeft, BitVec.toNat_setWidth_of_le (by norm_num), Nat.shiftLeft_eq, ← hpow,
        Nat.mod_eq_of_lt (by omega), Nat.mul_comm]
    simp only [List.range_succ, List.foldl_append, List.foldl_cons, List.foldl_nil, List.map_append, List.map_cons,
      List.map_nil, List.sum_append, List.sum_cons, List.sum_nil, Nat.add_zero]
    refine ⟨?_, by omega⟩
    calc _ = 2 ^ (8 * n) * (b n).toNat ||| ((List.range n).map fun k => (b k).toNat * 256 ^ k).sum := by
          rw [BitVec.toNat_or, hshift, hvalue, Nat.or_comm]
      _ = 2 ^ (8 * n) * (b n).toNat + ((List.range n).map fun k => (b k).toNat * 256 ^ k).sum :=
          (Nat.two_pow_add_eq_or_of_lt (hpow ▸ hbound) _).symm
      _ = _ := by rw [← hpow, Nat.mul_comm, Nat.add_comm]

theorem bpp_le_four (f : PixelFormat) : f.bpp ≤ 4 := by cases f <;> decide

theorem pixelAt_toNat (f : PixelFormat) (d : Block) (o : Nat) : (pixelAt f d o).toNat = pixelValue f d o := by
  obtain ⟨h, -⟩ := littleEndian_toNat (fun k => blockByte d (o + k)) f.bpp (bpp_le_four f)
  exact h

/-! ### The blend of a pixel -/

theorem channelsOfTable_eq (f : PixelFormat) : channelsOfTable f = f.channels := by cases f <;> rfl

theorem channelValue_eq (v : Word) (ch : Nat × Nat) : channelValue v ch = v.toNat / 2 ^ ch.1 % 2 ^ ch.2 := by
  rw [channelValue, Nat.shiftRight_eq_div_pow]

/-- The blend of two channel values of a width has that width (R68). -/
theorem blendChannel_lt {f d c n : Nat} (hf : f < n) (hd : d < n) (hc : c ≤ 15) : blendChannel f d c < n := by
  have hfg : f * c ≤ (n - 1) * c := Nat.mul_le_mul_right c (by omega)
  have hdst : d * (15 - c) ≤ (n - 1) * (15 - c) := Nat.mul_le_mul_right _ (by omega)
  have hsum : (n - 1) * c + (n - 1) * (15 - c) = (n - 1) * 15 := by
    rw [← Nat.mul_add]
    congr 1
    omega
  unfold blendChannel
  omega

/-- Numbers of the widths of the channels, packed at their positions, and what each channel then holds (R1, R69). -/
theorem packedChannels (f : PixelFormat) (b : Nat × Nat → Nat) (hb : ∀ ch ∈ f.channels, b ch < 2 ^ ch.2) :
    ((f.channels.map fun ch => b ch <<< ch.1).sum) < 256 ^ f.bpp
      ∧ ∀ ch ∈ f.channels, (f.channels.map fun ch => b ch <<< ch.1).sum / 2 ^ ch.1 % 2 ^ ch.2 = b ch := by
  cases f <;>
    simp only [PixelFormat.channels, PixelFormat.bpp, List.forall_mem_cons, List.map_cons, List.map_nil, List.sum_cons,
      List.sum_nil, Nat.shiftLeft_eq] at hb ⊢ <;>
    norm_num at hb ⊢ <;> omega

/-- Every channel of the blend of two pixels is the blend of their channels (R69). -/
theorem blendPixel_channels (f : PixelFormat) (fg dst : Word) {c : Nat} (hc : c ≤ 15) :
    (blendPixel f fg dst c).toNat < 256 ^ f.bpp
      ∧ ∀ ch ∈ f.channels,
          (blendPixel f fg dst c).toNat / 2 ^ ch.1 % 2 ^ ch.2
            = blendChannel (channelValue fg ch) (channelValue dst ch) c := by
  have hwidth : ∀ v ch, channelValue v ch < 2 ^ ch.2 := fun v ch => Nat.mod_lt _ (Nat.two_pow_pos _)
  obtain ⟨hlt, hchannels⟩ := packedChannels f (fun ch => blendChannel (channelValue fg ch) (channelValue dst ch) c)
    fun ch _ => blendChannel_lt (hwidth fg ch) (hwidth dst ch) hc
  have hword : 256 ^ f.bpp ≤ 2 ^ 32 := by cases f <;> decide
  have hvalue := Nat.mod_eq_of_lt (hlt.trans_le hword)
  simp only [blendPixel, BitVec.toNat_ofNat, hvalue]
  exact ⟨hlt, hchannels⟩

/-! ### Bytes of the combine -/

theorem blockByte_blockOf (bytes : List (Nat × Byte)) {o : Nat} (h : o < 64) :
    blockByte (blockOf bytes) o = (bytes.lookup o).getD 0#8 := by
  simp [blockByte, blockOf, h]

/-- A run of items at consecutive addresses finds the item of each of its addresses. -/
theorem lookup_run {β : Type} (g : Nat → β) (a o n : Nat) :
    ((List.range n).map fun k => (a + k, g k)).lookup o
      = if a ≤ o ∧ o < a + n then some (g (o - a)) else none := by
  induction n with
  | zero => rw [if_neg (by omega)]; rfl
  | succ n ih =>
    rw [List.range_succ, List.map_append, List.lookup_append, ih]
    by_cases hlast : o = a + n
    · subst hlast
      simp
    · by_cases hin : a ≤ o ∧ o < a + n
      · rw [if_pos hin, if_pos (by omega), Option.some_or]
      · rw [if_neg hin, if_neg (by omega)]
        simp [List.lookup_cons, beq_false_of_ne hlast]

/-- The bytes of a pixel stand at its own addresses and nowhere else (R2). -/
theorem lookup_pixelBytes (f : PixelFormat) (a : Nat) (v : Word) (o : Nat) :
    (pixelBytes f a v).lookup o = if a ≤ o ∧ o < a + f.bpp then some (wordByte v (o - a)) else none :=
  lookup_run (wordByte v) a o f.bpp

/-- Of pixels none of which overlaps the next, each finds its own bytes (R60, R70). -/
theorem lookup_pixels {f : PixelFormat} (v : Nat × Nat → Word) : ∀ {pixels : List (Nat × Nat)},
    pixels.Pairwise (fun a b => a.1 + f.bpp ≤ b.1) → ∀ px ∈ pixels, ∀ k < f.bpp,
      (pixels.flatMap fun px => pixelBytes f px.1 (v px)).lookup (px.1 + k) = some (wordByte (v px) k)
  | [], _, px, hpx, _, _ => by cases hpx
  | x :: rest, hpairs, px, hpx, k, hk => by
    rw [List.pairwise_cons] at hpairs
    obtain ⟨hfirst, hrest⟩ := hpairs
    rw [List.flatMap_cons, List.lookup_append, lookup_pixelBytes]
    obtain rfl | hmem := List.mem_cons.1 hpx
    · simp [hk]
    · have hbehind := hfirst px hmem
      rw [if_neg (by omega), Option.none_or, lookup_pixels v hrest px hmem k hk]

/-- A byte of no pixel finds none. -/
theorem lookup_no_pixel {f : PixelFormat} (v : Nat × Nat → Word) {pixels : List (Nat × Nat)} {o : Nat}
    (h : ∀ px ∈ pixels, ¬ (px.1 ≤ o ∧ o < px.1 + f.bpp)) :
    (pixels.flatMap fun px => pixelBytes f px.1 (v px)).lookup o = none := by
  induction pixels with
  | nil => rfl
  | cons x rest ih =>
    rw [List.flatMap_cons, List.lookup_append, lookup_pixelBytes, if_neg (h x List.mem_cons_self), Option.none_or]
    exact ih fun px hpx => h px (List.mem_cons_of_mem _ hpx)

/-- The pixel that the combine writes has the foreground's value at coverage 15, and else the blend of every channel
(R69, R70). -/
theorem combinePixel_spec {f : PixelFormat} {fg : Word} (fetched : Block) {px : Nat × Nat}
    (hfg : fg.toNat < 256 ^ f.bpp) (hc : px.2 ≤ 15) :
    (combinePixel f fg fetched px).toNat < 256 ^ f.bpp
      ∧ (px.2 = 15 → combinePixel f fg fetched px = fg)
      ∧ (px.2 ≤ 14 → ∀ ch ∈ channelsOfTable f,
          (combinePixel f fg fetched px).toNat / 2 ^ ch.1 % 2 ^ ch.2
            = blendChannel (fg.toNat / 2 ^ ch.1 % 2 ^ ch.2)
                (pixelValue f fetched px.1 / 2 ^ ch.1 % 2 ^ ch.2) px.2) := by
  unfold combinePixel
  by_cases hfull : px.2 = 15
  · rw [if_pos hfull]
    exact ⟨hfg, fun _ => rfl, fun hle => by omega⟩
  · rw [if_neg hfull]
    obtain ⟨hlt, hchannels⟩ := blendPixel_channels f fg (pixelAt f fetched px.1) hc
    refine ⟨hlt, fun h => absurd h hfull, fun _ ch hch => ?_⟩
    rw [channelsOfTable_eq] at hch
    rw [hchannels ch hch, channelValue_eq, channelValue_eq, pixelAt_toNat]

/-- Settles O41: the bytes by the place of each pixel, its value by coverage. -/
theorem combineWritesBlendedPixels : Obligations.CombineWritesBlendedPixels := by
  intro f fg fetched pixels hfg hpairs hranges
  refine ⟨fun px hpx => ?_, fun o ho hno => ?_⟩
  · obtain ⟨hblock, -, hcoverage⟩ := hranges px hpx
    obtain ⟨hlt, hfull, hblend⟩ := combinePixel_spec fetched hfg hcoverage
    refine ⟨combinePixel f fg fetched px, hlt, hfull, hblend, fun k hk => ?_⟩
    rw [combine, blockByte_blockOf _ (by omega), lookup_pixels (combinePixel f fg fetched) hpairs px hpx k hk,
      Option.getD_some, wordByte_eq_leByte]
  · rw [combine, blockByte_blockOf _ ho, lookup_no_pixel (combinePixel f fg fetched) hno, Option.getD_none]

end Sys2Proof.Proofs
end

section
/-! PROOF. Pin reset: the values of every block, and that they meet every invariant. -/

namespace Sys2Proof.Proofs

open Sys2Proof.Machine Sys2Proof.Safety Sys2Proof.Claims

/-! ### The reset values -/

@[simp] theorem reset_tag (t : Fin 8) : State.reset.tag t = .free := by
  simp [State.reset, State.tag, MemorySide.reset]

@[simp] theorem reset_oq : State.reset.oq = OrderQueue.reset := rfl

@[simp] theorem reset_hsp : State.reset.hsp = HostSide.reset := rfl

@[simp] theorem reset_fu : State.reset.fu = FaultUnit.reset := rfl

@[simp] theorem reset_clearAllPending : State.reset.wt.clearAllPending = false := rfl

/-- Settles O46: RESET_N_LOW leads to `holdInReset`, whose blocks are those of the reset state. -/
theorem resetRestoresEveryBlock : Obligations.ResetRestoresEveryBlock := by
  refine fun s => ⟨⟨holdInReset s, rfl, reset_surface, reset_window, rfl, rfl, rfl, reset_tag, rfl, rfl, rfl, rfl, rfl,
    rfl, rfl, rfl⟩, rfl, fun hcs hrequest hpending => ?_⟩
  show Host.Outcome.next (releaseReset (holdInReset s)) = .next State.reset
  simp only [releaseReset, holdInReset, hcs, hrequest, hpending]
  rfl

/-! ### The reset state is sound -/

theorem withinCapacity_reset : WithinCapacity State.reset := by
  simp [WithinCapacity, OrderQueue.reset, HostSide.reset, FaultUnit.reset]

theorem countersInRange_reset : CountersInRange State.reset := fun i => by
  simp [Window.emptied, Counters.zero]

theorem flagsMatchSets_reset : FlagsMatchSets State.reset := by simp [FlagsMatchSets, FaultUnit.reset]

theorem rangesDisjoint_reset : RangesDisjoint State.reset := fun i j _ hi _ => by
  simp [Window.matching, Window.emptied] at hi

theorem creationOrder_reset : CreationOrder State.reset := by simp [CreationOrder, OrderQueue.reset]

theorem queueSound_reset : QueueSound State.reset := by
  refine ⟨creationOrder_reset, fun i => ?_, fun m hm => by cases hm⟩
  rw [reset_window]
  rfl

theorem tagsSound_reset : TagsSound State.reset := by
  have hshape : ∀ m ∈ State.reset.oq.mops, MopShape m := fun m hm => by cases hm
  refine ⟨creationOrder_reset, hshape, fun t id phase deadline block h => ?_, fun m hm => by cases hm⟩
  simp at h

theorem entriesExact_reset : EntriesExact State.reset := by
  simp [EntriesExact, HostSide.reset, OrderQueue.reset]

theorem orderSound_reset : OrderSound State.reset := ⟨creationOrder_reset, .nil⟩

theorem fencesSound_reset : FencesSound State.reset := by simp [FencesSound, OrderQueue.reset]

theorem bytesSound_reset : BytesSound State.reset := fun m hm => by cases hm

theorem frameSound_reset : FrameSound State.reset := (frameSound_iff _).2 ⟨fun _ => rfl, frameFits_idle⟩

theorem heldInReset_reset : HeldInReset State.reset := fun h => by cases h

/-- Settles O50, invariant by invariant: every list is empty, every window EMPTY and every tag FREE. -/
theorem resetStateIsSound : Obligations.ResetStateIsSound :=
  ⟨withinCapacity_reset, countersInRange_reset, flagsMatchSets_reset, surfacesSound_reset, windowsSound_reset,
    rangesDisjoint_reset, tablesSound_reset, queueSound_reset, ⟨tagsSound_reset, entriesExact_reset⟩, orderSound_reset,
    fencesSound_reset, bytesSound_reset, frameSound_reset, heldInReset_reset⟩

end Sys2Proof.Proofs
end

section
/-! PROOF. Every step keeps the host ranges of LIVE and HALTED windows apart. -/

namespace Sys2Proof.Proofs

open Sys2Proof.Machine Sys2Proof.Safety Sys2Proof.Claims

/-! ### Host ranges -/

theorem rangesOverlap_comm (base limit base' limit' : Nat) :
    rangesOverlap base limit base' limit' = rangesOverlap base' limit' base limit := Bool.and_comm _ _

/-- A window that is LIVE or HALTED afterwards was so before, with the same host range (R39). -/
def RangeKept (before after : Window) : Prop :=
  after.matching = true → before.matching = true ∧ after.staged.hostBase = before.staged.hostBase
    ∧ after.derived.hostLimit = before.derived.hostLimit

theorem RangeKept.refl (w : Window) : RangeKept w w := fun h => ⟨h, rfl, rfl⟩

/-- A window out of LIVE and HALTED has no range to keep apart. -/
theorem RangeKept.of_not_matching {w w' : Window} (h : w'.matching = false) : RangeKept w w' :=
  fun hm => by simp [h] at hm

theorem RangeKept.of_matching {w w' : Window} (h : w.matching = true) (hstaged : w'.staged = w.staged)
    (hderived : w'.derived = w.derived) : RangeKept w w' :=
  fun _ => ⟨h, by rw [hstaged], by rw [hderived]⟩

theorem RangeKept.of_sameState {w w' : Window} (hstate : w'.state = w.state) (hstaged : w'.staged = w.staged)
    (hderived : w'.derived = w.derived) : RangeKept w w' :=
  fun hm => ⟨by simpa [Window.matching, hstate] using hm, by rw [hstaged], by rw [hderived]⟩

/-- Ranges that are kept stay apart. -/
theorem rangesDisjoint_of_rangeKept {s t : State} (h : ∀ i, RangeKept (s.window i) (t.window i))
    (hs : RangesDisjoint s) : RangesDisjoint t := by
  intro i j hij hi hj
  obtain ⟨hmi, hbi, hli⟩ := h i hi
  obtain ⟨hmj, hbj, hlj⟩ := h j hj
  rw [hbi, hli, hbj, hlj]
  exact hs i j hij hmi hmj

theorem rangesDisjoint_of_windows {s t : State} (h : ∀ i, t.window i = s.window i) (hs : RangesDisjoint s) :
    RangesDisjoint t :=
  rangesDisjoint_of_rangeKept (fun i => by rw [h i]; exact .refl _) hs

/-- One window changes and keeps its range, or leaves LIVE and HALTED. -/
theorem rangesDisjoint_update {s t : State} {i : Fin 16} (hothers : ∀ j, j ≠ i → t.window j = s.window j)
    (hi : RangeKept (s.window i) (t.window i)) (hs : RangesDisjoint s) : RangesDisjoint t := by
  refine rangesDisjoint_of_rangeKept (fun j => ?_) hs
  by_cases hj : j = i
  · subst hj; exact hi
  · rw [hothers j hj]; exact .refl _

theorem rangesDisjoint_withWindow {s : State} {i : Fin 16} {w : Window} (hi : RangeKept (s.window i) w)
    (hs : RangesDisjoint s) : RangesDisjoint (s.withWindow i w) :=
  rangesDisjoint_update (i := i) (fun j hj => by simp [Ne.symm hj]) (by simpa using hi) hs

theorem rangesDisjoint_toStaged {s : State} (i : Fin 16) (hs : RangesDisjoint s) : RangesDisjoint (toStaged i s) :=
  rangesDisjoint_update (i := i) (fun j hj => by simp [toStaged_window, hj])
    (.of_not_matching (by simp [toStaged_window, Window.matching])) hs

theorem rangesDisjoint_toEmpty {s : State} (i : Fin 16) (hs : RangesDisjoint s) : RangesDisjoint (toEmpty i s) :=
  rangesDisjoint_update (i := i) (fun j hj => by simp [toEmpty_window, hj])
    (.of_not_matching (by simp [toEmpty_window, Window.emptied, Window.matching])) hs

theorem rangesDisjoint_leaveWindow {s : State} (i : Fin 16) (hs : RangesDisjoint s) :
    RangesDisjoint (leaveWindow i s) := by
  have hdeparted : RangesDisjoint (s.withWindow i (departed (s.window i))) :=
    rangesDisjoint_withWindow (.of_sameState rfl rfl rfl) hs
  obtain ⟨-, h⟩ | ⟨-, -, ⟨-, h⟩ | ⟨-, h⟩⟩ := leaveWindow_cases i s
  · rw [h]; exact hdeparted
  · rw [h]; exact rangesDisjoint_toStaged i hdeparted
  · rw [h]; exact rangesDisjoint_of_windows (endClearAll_window _) (rangesDisjoint_toEmpty i hdeparted)

/-- The overlap check finds a LIVE or HALTED window other than the candidate whose range meets the candidate range
(R26). -/
theorem overlapsOpenWindow_iff (s : State) (i : Fin 16) (base limit : Nat) :
    overlapsOpenWindow s.wt i base limit = true
      ↔ ∃ j, j ≠ i ∧ (s.window j).matching = true
          ∧ rangesOverlap base limit (s.window j).staged.hostBase.toNat (s.window j).derived.hostLimit = true := by
  simp [overlapsOpenWindow, State.window, and_assoc]

/-- A window enters LIVE with a range that meets no other (R24, R26). -/
theorem rangesDisjoint_open {s t : State} {i : Fin 16} (hothers : ∀ j, j ≠ i → t.window j = s.window j)
    (hcheck : overlapsOpenWindow s.wt i (t.window i).staged.hostBase.toNat (t.window i).derived.hostLimit = false)
    (hs : RangesDisjoint s) : RangesDisjoint t := by
  have hclear : ∀ j, j ≠ i → (s.window j).matching = true →
      ¬ rangesOverlap (t.window i).staged.hostBase.toNat (t.window i).derived.hostLimit
        (s.window j).staged.hostBase.toNat (s.window j).derived.hostLimit = true := by
    intro j hj hm hmeet
    simp [(overlapsOpenWindow_iff s i _ _).2 ⟨j, hj, hm, hmeet⟩] at hcheck
  intro j k hjk hj hk
  by_cases hji : j = i
  · subst hji
    rw [hothers k (Ne.symm hjk)] at hk ⊢
    exact hclear k (Ne.symm hjk) hk
  · by_cases hki : k = i
    · subst hki
      rw [hothers j hjk] at hj ⊢
      rw [rangesOverlap_comm]
      exact hclear j hjk hj
    · rw [hothers j hji] at hj ⊢
      rw [hothers k hki] at hk ⊢
      exact hs j k hjk hj hk

/-! ### Every move keeps the ranges apart -/

theorem TrafficMove.rangesDisjoint {s t : State} (h : TrafficMove s t) (hs : RangesDisjoint s) :
    RangesDisjoint t := by
  cases h with
  | elsewhere h _ => exact rangesDisjoint_of_windows h.window hs
  | leave i => exact rangesDisjoint_leaveWindow i hs
  | halt i n hlive => exact rangesDisjoint_withWindow (.of_matching (matching_of_live hlive) rfl rfl) hs
  | accept i n hlive => exact rangesDisjoint_withWindow (.of_sameState rfl rfl rfl) hs
  | turnAway i hm => exact rangesDisjoint_withWindow (.of_sameState rfl rfl rfl) hs

/-- CLEAR_ALL leaves no window LIVE or HALTED (R34). -/
theorem not_matching_cleared (w : Window) : w.cleared.matching = false := by
  obtain h | h := cleared_state w <;> simp [Window.matching, h]

theorem CommandMove.rangesDisjoint {s t : State} (h : CommandMove s t) (hs : RangesDisjoint s) :
    RangesDisjoint t := by
  cases h with
  | elsewhere h _ => exact rangesDisjoint_of_windows h.window hs
  | define | drop => exact rangesDisjoint_of_windows (fun _ => rfl) hs
  | stage i kind sf p _ _ _ => exact rangesDisjoint_withWindow (.of_not_matching rfl) hs
  | opening i d _ _ _ _ hcheck =>
    refine rangesDisjoint_open (i := i) (fun j hj => ?_) ?_ hs
    · rw [openClaim_window, window_withWindow_ne s (Ne.symm hj)]
    · rw [openClaim_window, window_withWindow_same]
      exact hcheck
  | close i _ hm =>
    obtain ⟨-, h⟩ | ⟨-, h⟩ := closeOpen_cases i s
    · rw [h]; exact rangesDisjoint_toStaged i hs
    · rw [h]; exact rangesDisjoint_withWindow (.of_not_matching rfl) hs
  | resume i _ hhalted => exact rangesDisjoint_withWindow (.of_matching (matching_of_halted hhalted) rfl rfl) hs
  | clear _ =>
    refine rangesDisjoint_of_rangeKept (fun i => .of_not_matching ?_) hs
    rw [endClearAll_window, startClearAll_window, not_matching_cleared]

/-- Settles O53, move by move: only OPEN_WINDOW gives a window a range, and its overlap check keeps that range apart. -/
theorem stepKeepsOpenRangesDisjoint : Obligations.StepKeepsOpenRangesDisjoint :=
  fun _ _ hs h =>
    step_keeps_tables (P := RangesDisjoint) (fun h => rangesDisjoint_of_windows h.window)
      (fun h => h.rangesDisjoint) (fun h => h.rangesDisjoint) rangesDisjoint_reset h hs

end Sys2Proof.Proofs
end

section
/-! PROOF. What one step can do to the order queue, the response queue and the fault unit, said once: a step is a run of
queue moves (accesses, issues, removals, halts, records), one move of the management port, or the reset values. Every
invariant of these blocks is then a statement about single moves. -/

namespace Sys2Proof.Proofs

open Sys2Proof.Machine Sys2Proof.Safety Sys2Proof.Claims

/-! ### States with the same queues -/

/-- Both tables, the order queue, the response queue and the fault unit are the same in both states. -/
structure SameQueues (s t : State) : Prop where
  st : t.st = s.st
  wt : t.wt = s.wt
  oq : t.oq = s.oq
  entries : t.hsp.entries = s.hsp.entries
  nextEntry : t.hsp.nextId = s.hsp.nextId
  fu : t.fu = s.fu

theorem SameQueues.refl (s : State) : SameQueues s s := ⟨rfl, rfl, rfl, rfl, rfl, rfl⟩

theorem SameQueues.window {s t : State} (h : SameQueues s t) (i : Fin 16) : t.window i = s.window i := by
  simp only [State.window, h.wt]

/-! ### Notices -/

/-- One notice that a removal, a drain, the end of a clear-all or a completed fence sets (R141). -/
inductive NoticeMove : FaultUnit → FaultUnit → Prop where
  | fenceDone (fu : FaultUnit) : NoticeMove fu (noticeFenceDone fu)
  | windowClosed (i : Fin 16) (fu : FaultUnit) : NoticeMove fu (noticeWindowClosed i fu)
  | clearDone (fu : FaultUnit) : NoticeMove fu (noticeClearDone fu)

/-- Any number of such notices. -/
abbrev NoticeRun : FaultUnit → FaultUnit → Prop := Relation.ReflTransGen NoticeMove

/-- What every notice keeps, any number of them keeps. -/
theorem NoticeRun.keeps {P : FaultUnit → Prop} (hP : ∀ {fu fu'}, NoticeMove fu fu' → P fu → P fu') {fu fu' : FaultUnit}
    (h : NoticeRun fu fu') (hs : P fu) : P fu' := by
  induction h with
  | refl => exact hs
  | tail _ move ih => exact hP move ih

theorem notices_completeFences (s : State) : NoticeRun s.fu (completeFences s).fu := by
  obtain h | h := completeFences_fu s
  · rw [h]
  · rw [h]; exact .single (.fenceDone _)

theorem notices_endClearAll (s : State) : NoticeRun s.fu (endClearAll s).fu := by
  obtain ⟨h, -⟩ | ⟨-, -, h⟩ := endClearAll_cases s
  · rw [h]
  · rw [h]; exact .single (.clearDone _)

theorem notices_toStaged (i : Fin 16) (s : State) : NoticeRun s.fu (toStaged i s).fu := .single (.windowClosed i _)

theorem notices_leaveWindow (i : Fin 16) (s : State) : NoticeRun s.fu (leaveWindow i s).fu := by
  obtain ⟨-, h⟩ | ⟨-, -, ⟨-, h⟩ | ⟨-, h⟩⟩ := leaveWindow_cases i s
  · rw [h]; exact .refl
  · rw [h]; exact notices_toStaged i (s.withWindow i _)
  · rw [h]; exact notices_endClearAll (toEmpty i (s.withWindow i _))

theorem notices_leaveTag (t : Option WindowTag) (s : State) : NoticeRun s.fu (leaveTag t s).fu := by
  cases t with
  | none => exact .refl
  | some t => exact notices_leaveWindow t.index s

theorem notices_removeMop (m : Mop) (s : State) : NoticeRun s.fu (removeMop m s).fu :=
  (notices_leaveTag m.window (s.withMops (dropMop m.id s.oq.mops))).trans (notices_completeFences (leaveTag _ _))

/-- A halting window's state before fences complete: its PENDING MOPs cancelled and WINDOW_HALTED set (R31, R103). -/
def haltedBeforeFences (i : Fin 16) (s : State) : State :=
  { s with
    wt := (s.withWindow i ((s.window i).afterHalt (s.oq.mops.filter fun m => m.cancelledBy i).length)).wt
    oq := { s.oq with mops := s.oq.mops.filter fun m => !m.cancelledBy i }
    hsp := { s.hsp with entries := failEntries (s.oq.mops.filter fun m => m.cancelledBy i) s.hsp.entries }
    fu := noticeWindowHalted i s.fu }

theorem haltWindow_eq (i : Fin 16) (s : State) : haltWindow i s = completeFences (haltedBeforeFences i s) := rfl

theorem notices_haltWindow (i : Fin 16) (s : State) : NoticeRun (noticeWindowHalted i s.fu) (haltWindow i s).fu := by
  rw [haltWindow_eq]
  exact notices_completeFences (haltedBeforeFences i s)

theorem haltWindow_fences (i : Fin 16) (s : State) :
    (haltWindow i s).oq.fences = s.oq.fences.filter (fenceWaits (s.oq.mops.filter fun m => !m.cancelledBy i)) :=
  haltWindow_eq i s ▸ completeFences_fences (haltedBeforeFences i s)

/-! ### Entries of the response queue -/

@[simp] theorem onLinkedEntry_entries_length (m : Mop) (f : Entry → Entry) (s : State) :
    (onLinkedEntry m f s).hsp.entries.length = s.hsp.entries.length := by
  unfold onLinkedEntry
  split
  · rfl
  · exact List.length_map _

/-- An answer takes the head entry or none, and changes no other block (R130). -/
theorem answerHead_cases (s : State) :
    answerHead s = s
      ∨ ∃ e rest, s.hsp.entries = e :: rest
          ∧ answerHead s
            = { s with
                hsp :=
                  { s.hsp with
                    entries := rest
                    lastResponse := some { data := e.word, error := e.error } } } := by
  unfold answerHead
  split
  · exact .inl rfl
  · rename_i e rest h
    split
    · exact .inr ⟨e, rest, h, rfl⟩
    · exact .inl rfl

@[simp] theorem answerHead_fu (s : State) : (answerHead s).fu = s.fu := by
  obtain h | ⟨e, rest, -, h⟩ := answerHead_cases s <;> rw [h]

@[simp] theorem answerHead_oq (s : State) : (answerHead s).oq = s.oq := by
  obtain h | ⟨e, rest, -, h⟩ := answerHead_cases s <;> rw [h]

@[simp] theorem answerHead_wt (s : State) : (answerHead s).wt = s.wt := by
  obtain h | ⟨e, rest, -, h⟩ := answerHead_cases s <;> rw [h]

/-- A taken read pushes one entry, a write none (R51). -/
theorem pushEntry_cases (a : Access) (n : Nat) (error : Bool) (s : State) :
    (a.write = true ∧ pushEntry a n error s = s)
      ∨ (a.write = false
          ∧ pushEntry a n error s
            = { s with
                hsp :=
                  { s.hsp with
                    entries := s.hsp.entries ++ [{ id := s.hsp.nextId, word := 0#32, outstanding := n, error := error }]
                    nextId := s.hsp.nextId + 1 } }) := by
  unfold pushEntry
  cases a.write with
  | true => exact .inl ⟨rfl, rfl⟩
  | false => exact .inr ⟨rfl, rfl⟩

@[simp] theorem pushEntry_fu (a : Access) (n : Nat) (error : Bool) (s : State) : (pushEntry a n error s).fu = s.fu := by
  obtain ⟨-, h⟩ | ⟨-, h⟩ := pushEntry_cases a n error s <;> rw [h]

@[simp] theorem pushEntry_oq (a : Access) (n : Nat) (error : Bool) (s : State) : (pushEntry a n error s).oq = s.oq := by
  obtain ⟨-, h⟩ | ⟨-, h⟩ := pushEntry_cases a n error s <;> rw [h]

@[simp] theorem pushEntry_wt (a : Access) (n : Nat) (error : Bool) (s : State) : (pushEntry a n error s).wt = s.wt := by
  obtain ⟨-, h⟩ | ⟨-, h⟩ := pushEntry_cases a n error s <;> rw [h]

/-! ### One window of the table changes -/

/-- A property of every window, after a change of one of them. -/
theorem forall_window_update {P : Fin 16 → Window → Prop} {s t : State} {i : Fin 16}
    (hothers : ∀ j, j ≠ i → t.window j = s.window j) (hs : ∀ j, j ≠ i → P j (s.window j)) (hi : P i (t.window i)) :
    ∀ j, P j (t.window j) := by
  intro j
  by_cases hj : j = i
  · subst hj; exact hi
  · rw [hothers j hj]; exact hs j hj

theorem forall_window_withWindow {P : Fin 16 → Window → Prop} {s : State} {i : Fin 16} {w : Window}
    (hs : ∀ j, j ≠ i → P j (s.window j)) (hw : P i w) : ∀ j, P j ((s.withWindow i w).window j) :=
  forall_window_update (s := s) (i := i) (fun j hj => by simp [Ne.symm hj]) hs (by simpa using hw)

theorem forall_window_toStaged {P : Fin 16 → Window → Prop} {s : State} {i : Fin 16}
    (hs : ∀ j, j ≠ i → P j (s.window j))
    (hw : P i { s.window i with state := .staged, derived := Derived.zero }) : ∀ j, P j ((toStaged i s).window j) :=
  forall_window_update (s := s) (i := i) (fun j hj => by simp [toStaged_window, hj]) hs
    (by simpa [toStaged_window] using hw)

theorem forall_window_toEmpty {P : Fin 16 → Window → Prop} {s : State} {i : Fin 16}
    (hs : ∀ j, j ≠ i → P j (s.window j)) (hw : P i (Window.emptied (s.window i).generation)) :
    ∀ j, P j ((toEmpty i s).window j) :=
  forall_window_update (s := s) (i := i) (fun j hj => by simp [toEmpty_window, hj]) hs
    (by simpa [toEmpty_window] using hw)

/-- A property of every window survives the departure of a MOP when it survives the lower count of its window and, where
the last MOP of a CLOSING window leaves, the passage to STAGED and to EMPTY (R20, R29). -/
theorem forall_window_leaveWindow {P : Fin 16 → Window → Prop} {s : State} {i : Fin 16}
    (hs : ∀ j, j ≠ i → P j (s.window j)) (hdeparted : P i (departed (s.window i)))
    (hdrained : (s.window i).inFlight ≤ 1 →
      P i { departed (s.window i) with state := .staged, derived := Derived.zero }
        ∧ P i (Window.emptied (s.window i).generation)) :
    ∀ j, P j ((leaveWindow i s).window j) := by
  have hothers : ∀ j, j ≠ i → P j ((s.withWindow i (departed (s.window i))).window j) := by
    intro j hj
    rw [window_withWindow_ne s (Ne.symm hj)]
    exact hs j hj
  obtain ⟨-, h⟩ | ⟨-, hlast, ⟨-, h⟩ | ⟨-, h⟩⟩ := leaveWindow_cases i s
  · rw [h]; exact forall_window_withWindow hs hdeparted
  · rw [h]; exact forall_window_toStaged hothers (by simpa using (hdrained hlast).1)
  · rw [h]
    intro j
    rw [endClearAll_window]
    exact forall_window_toEmpty hothers (by simpa [departed] using (hdrained hlast).2) j

/-! ### The MOPs that an access brings into the queue -/

theorem mopsOfParts_length (tag : Option WindowTag) (host : Word) :
    ∀ (parts : List BlockPart) (id : Nat), (mopsOfParts id tag host parts).length = parts.length
  | [], _ => rfl
  | p :: rest, id => by simp only [mopsOfParts, List.length_cons, mopsOfParts_length tag host rest]

/-- What the order of the queue and the counts of the windows read of a MOP: its serial number and its window tag. -/
def mopKey (m : Mop) : Nat × Option WindowTag := (m.id, m.window)

/-- A merge changes neither the tail's serial number nor its window tag (R53). -/
theorem mergeIntoTail_keys (mops : List Mop) (m : Mop) : (mergeIntoTail mops m).map mopKey = mops.map mopKey := by
  unfold mergeIntoTail
  cases h : mops.getLast? with
  | none => rfl
  | some t =>
    have hmops : mops.dropLast ++ [t] = mops := List.dropLast_append_getLast? t h
    calc (mops.dropLast ++ [mergeTail t m]).map mopKey = (mops.dropLast ++ [t]).map mopKey := by
          simp [mopKey, mergeTail]
      _ = mops.map mopKey := by rw [hmops]

/-- The queue after an access: the MOPs it held, the tail perhaps merged with the access's first MOP, and behind them
the MOPs created (R49, R53, R54). -/
theorem queueAfter_eq (s : State) (a : Access) :
    ∃ old created, queueAfter s a = old ++ created ∧ old.map mopKey = s.oq.mops.map mopKey
      ∧ created <:+ accessMops s a ∧ created.length = createdCount s a := by
  unfold queueAfter createdCount
  cases h : accessMops s a with
  | nil => exact ⟨s.oq.mops, [], by simp, rfl, List.suffix_rfl, rfl⟩
  | cons m rest =>
    by_cases hm : mergesInto s.oq m = true
    · exact ⟨mergeIntoTail s.oq.mops m, rest, by simp [hm], mergeIntoTail_keys _ m, List.suffix_cons m rest,
        by simp [hm]⟩
    · exact ⟨s.oq.mops, m :: rest, by simp [hm], rfl, List.suffix_rfl, by simp [hm]⟩

/-- The queue after an access holds at most the MOPs it held and those of the access. -/
theorem queueAfter_length_le (s : State) (a : Access) :
    (queueAfter s a).length ≤ s.oq.mops.length + (accessMops s a).length := by
  obtain ⟨old, created, h, hold, hcreated, -⟩ := queueAfter_eq s a
  have hlength : old.length = s.oq.mops.length := by simpa using congrArg List.length hold
  rw [h, List.length_append, hlength]
  exact Nat.add_le_add_left hcreated.length_le _

/-- An admitted access finds room for its MOPs and, when it reads, for its entry (R52). -/
theorem admissible_iff (s : State) (a : Access) :
    admissible s a = true
      ↔ ((accessMops s a).length = 0 ∨ s.oq.mops.length + (accessMops s a).length ≤ Config.oqCapacity)
        ∧ (a.write = true ∨ s.hsp.entries.length < Config.rqCapacity) := by
  simp [admissible]

/-- An admitted access leaves the order queue within its capacity (R52, R89). -/
theorem queueAfter_length_of_admissible {s : State} {a : Access} (h : admissible s a = true)
    (hs : s.oq.mops.length ≤ Config.oqCapacity) : (queueAfter s a).length ≤ Config.oqCapacity := by
  have hle := queueAfter_length_le s a
  obtain ⟨hroom, -⟩ := (admissible_iff s a).1 h
  omega

/-! ### Queue moves -/

/-- One change that traffic makes in the queues, the fault unit or the counts of a window. -/
inductive QueueMove : State → State → Prop where
  /-- None of these blocks changes. -/
  | elsewhere {s t : State} : SameQueues s t → QueueMove s t
  /-- An issue event (R96). -/
  | issue (m : Mop) (t : Fin 8) (p : Phase) {s : State} :
      issueChoice s = some (m, t) → m.nextPhase = some p → QueueMove s (issueMop m t p s)
  /-- A fetched block is combined (R70, R99). -/
  | combine (m : Mop) (data : Block) {s : State} :
      m ∈ s.oq.mops → QueueMove s (s.withMops (updateMop m.id (combinedMop data) s.oq.mops))
  /-- A MOP of the queue is removed (R102). -/
  | remove (m : Mop) {s : State} : m ∈ s.oq.mops → QueueMove s (removeMop m s)
  /-- The entry of a READ MOP changes (R82, R84). -/
  | linked (m : Mop) (f : Entry → Entry) (s : State) : QueueMove s (onLinkedEntry m f s)
  /-- The head entry is answered (R130). -/
  | answered (s : State) : QueueMove s (answerHead s)
  /-- A fault is logged or counted as lost (R136). -/
  | record (r : FaultRecord) (s : State) : QueueMove s (s.withFu (logFault r s.fu))
  /-- A LIVE window halts (R31). -/
  | halt (i : Fin 16) {s : State} : (s.window i).state = .live → QueueMove s (haltWindow i s)
  /-- The MOPs of an access that passes through enter the queue (R41, R42). -/
  | pass (a : Access) {s : State} :
      disposition s.wt a = .passThrough → admissible s a = true → QueueMove s (admitMops a s)
  /-- The MOPs of a transformed access enter the queue, counted at its LIVE window (R54). -/
  | serve (i : Fin 16) (a : Access) {s : State} :
      disposition s.wt a = .transformed i → (s.window i).state = .live → admissible s a = true →
      QueueMove s (claimAccepted i (createdCount s a) (admitMops a s))
  /-- A window refuses an access (R54). -/
  | turnAway (i : Fin 16) (s : State) : QueueMove s (claimRefused i s)
  /-- A taken read gets its entry (R51). -/
  | push (a : Access) (n : Nat) (error : Bool) {s : State} :
      a.write = true ∨ s.hsp.entries.length < Config.rqCapacity → QueueMove s (pushEntry a n error s)

/-- A run of queue moves. -/
abbrev QueueRun : State → State → Prop := Relation.ReflTransGen QueueMove

/-- What every queue move keeps, every run of them keeps. -/
theorem QueueRun.keeps {P : State → Prop} (hP : ∀ {s t}, QueueMove s t → P s → P t) {s t : State} (h : QueueRun s t)
    (hs : P s) : P t := by
  induction h with
  | refl => exact hs
  | tail _ move ih => exact hP move ih

/-! ### The operations of the traffic as runs of queue moves -/

theorem queueRun_reportFault (r : FaultRecord) (s : State) : QueueRun s (reportFault r s) := by
  obtain ⟨-, h⟩ | ⟨i, hi, h⟩ := reportFault_cases r s
  · rw [h]; exact .single (.record _ s)
  · obtain ⟨-, hlive, -⟩ := haltedByFault_some hi
    rw [h]
    exact .tail (.single (.record _ s)) (.halt i hlive)

theorem queueRun_withTag (t : Fin 8) (x : Tag) (s : State) : QueueRun s (s.withTag t x) :=
  .single (.elsewhere ⟨rfl, rfl, rfl, rfl, rfl, rfl⟩)

theorem queueRun_clockTo (n : Nat) (s : State) : QueueRun s (clockTo n s) :=
  .single (.elsewhere ⟨rfl, rfl, rfl, rfl, rfl, rfl⟩)

theorem queueRun_setRequest (r : Option Access) (s : State) : QueueRun s (setRequest r s) :=
  .single (.elsewhere ⟨rfl, rfl, rfl, rfl, rfl, rfl⟩)

/-- The entry of a MOP in the queue changes, and the MOP is removed. -/
theorem queueRun_linked_remove {m : Mop} {s : State} (hm : m ∈ s.oq.mops) (f : Entry → Entry) :
    QueueRun s (removeMop m (onLinkedEntry m f s)) :=
  .tail (.single (.linked m f s)) (.remove m (by simpa using hm))

/-- The command of a MOP in the queue failed, and the fault is reported (R101). -/
theorem queueRun_fail_report {m : Mop} {s : State} (hm : m ∈ s.oq.mops) (r : FaultRecord) :
    QueueRun s (reportFault r (failMop m s)) :=
  (queueRun_linked_remove hm _).trans (queueRun_reportFault r _)

theorem queueRun_deliver (t : Fin 8) (id : Nat) (phase : Phase) (st : RespStatus) (data : Block) (s : State) :
    QueueRun s (deliver t id phase st data s) := by
  unfold deliver
  split
  · exact .refl
  · rename_i m hfound
    obtain ⟨hm, -⟩ := findMop_some hfound
    cases st with
    | err => exact queueRun_fail_report hm _
    | ok =>
      cases phase with
      | write => exact .single (.remove m hm)
      | fetch => exact .single (.combine m data hm)
      | read => exact queueRun_linked_remove hm _

theorem queueRun_acceptResponse (t : Fin 8) (st : RespStatus) (data : Block) (s : State) :
    QueueRun s (acceptResponse t st data s) := by
  unfold acceptResponse
  split
  · exact queueRun_reportFault _ s
  · exact (queueRun_withTag t .free s).trans (queueRun_reportFault _ _)
  · exact (queueRun_withTag t .free s).trans (queueRun_deliver t _ _ st data _)

theorem queueRun_timeOutMop (t : Fin 8) (id : Nat) (phase : Phase) (s : State) :
    QueueRun s (timeOutMop t id phase s) := by
  unfold timeOutMop
  split
  · exact .refl
  · rename_i m hfound
    exact queueRun_fail_report (findMop_some hfound).1 _

theorem queueRun_expireTag (t : Fin 8) (s : State) : QueueRun s (expireTag t s) := by
  obtain h | ⟨id, p, d, block, -, h⟩ := expireTag_cases t s
  · rw [h]
  · rw [h]; exact (queueRun_withTag t _ s).trans (queueRun_timeOutMop t id p _)

theorem queueRun_reachDeadline (t : Fin 8) (s : State) : QueueRun s (reachDeadline t s) := by
  unfold reachDeadline
  split
  · exact .refl
  · exact (queueRun_clockTo _ s).trans (queueRun_expireTag t _)

theorem queueRun_expireIfDue (t : Fin 8) (s : State) : QueueRun s (expireIfDue t s) := by
  unfold expireIfDue
  split
  · exact .refl
  · split
    · exact queueRun_expireTag t s
    · exact .refl

theorem queueRun_tick (s : State) : QueueRun s (tick s) := by
  have hfold : ∀ (l : List (Fin 8)) (u : State), QueueRun u (l.foldl (fun s t => expireIfDue t s) u) := by
    intro l
    induction l with
    | nil => exact fun u => .refl
    | cons t rest ih => exact fun u => (queueRun_expireIfDue t u).trans (ih _)
  exact (queueRun_clockTo _ s).trans (hfold _ _)

theorem queueRun_issueNext (s : State) : QueueRun s (issueNext s) := by
  obtain h | ⟨m, t, p, hchoice, hphase, h⟩ := issueNext_cases s
  · rw [h]
  · rw [h]; exact .single (.issue m t p hchoice hphase)

theorem queueRun_takeAccess (a : Access) {s : State} (h : admissible s a = true) : QueueRun s (takeAccess a s) := by
  obtain ⟨-, hentry⟩ := (admissible_iff s a).1 h
  have hrefused : ∀ i, QueueRun s (pushEntry a 0 true (claimRefused i s)) :=
    fun i => .tail (.single (.turnAway i s)) (.push a _ _ hentry)
  obtain hd | ⟨i, ⟨-, hd⟩ | ⟨hlive, hd | hd⟩⟩ := disposition_cases s a
  · simp only [takeAccess, hd]
    exact .tail (.single (.pass a hd h)) (.push a _ _ hentry)
  · simp only [takeAccess, hd]
    exact hrefused i
  · simp only [takeAccess, hd]
    exact .tail (.single (.serve i a hd hlive h)) (.push a _ _ hentry)
  · simp only [takeAccess, hd]
    exact (hrefused i).trans (queueRun_reportFault _ _)

theorem queueRun_driveRequest (r : Option Access) (s : State) : QueueRun s (driveRequest r s) := by
  cases r with
  | none => exact queueRun_setRequest none s
  | some a =>
    simp only [driveRequest, presentAccess]
    split
    · rename_i h
      simp only [Bool.and_eq_true] at h
      have hadmitted : admissible (setRequest none s) a = true := h.2
      exact (queueRun_setRequest none s).trans (queueRun_takeAccess a hadmitted)
    · exact queueRun_setRequest _ s

theorem queueRun_unlessReset {f : State → State} {s : State} (h : QueueRun s (f s)) :
    QueueRun s (unlessReset s f) := by
  unfold unlessReset
  split
  · exact h
  · exact .refl

/-! ### Moves of the management port -/

/-- The queues stay, and the fault unit takes notices alone. -/
def QueuesStay (s t : State) : Prop := t.oq = s.oq ∧ t.hsp = s.hsp ∧ NoticeRun s.fu t.fu

theorem QueuesStay.refl (s : State) : QueuesStay s s := ⟨rfl, rfl, .refl⟩

/-- The effect of one management command outside the frame, in every block. -/
inductive PortMove : State → State → Prop where
  /-- A command on the tables, or one that changes nothing. -/
  | tables {s t : State} : CommandMove s t → QueuesStay s t → PortMove s t
  /-- CONFIGURE (R156). -/
  | configure (timeout enables : Byte) (s : State) : PortMove s (setConfiguration timeout enables s)
  /-- ACK_NOTICE (R142). -/
  | acknowledge (mask : Byte) (s : State) : PortMove s (s.withFu (acknowledge mask s.fu))
  /-- LINK_RECOVER (R122). -/
  | recover (s : State) : PortMove s (recoverTags s)
  /-- POP_FAULT with a record in the log (R137). -/
  | pop (s : State) : PortMove s (dropOldest s)
  /-- FENCE on an empty queue (R105, R106). -/
  | fenceAtOnce {s : State} : s.oq.mops = [] → PortMove s (completeAtOnce s.oq.nextFence (useFenceNumber s))
  /-- FENCE behind MOPs (R105). -/
  | fencePlaced {s : State} :
      s.oq.fences.length < Config.fenceCapacity → s.oq.mops ≠ [] →
      PortMove s (placeFence s.oq.nextFence (useFenceNumber s))

theorem PortMove.refused (s : State) : PortMove s s := .tables (.refused s) (.refl s)

theorem setSurfaceReply_queues (p : SurfaceParams) (s : State) : QueuesStay s (setSurfaceReply p s).state := by
  unfold setSurfaceReply
  repeat' split
  all_goals exact .refl s

theorem dropSurfaceReply_queues (index : Byte) (s : State) : QueuesStay s (dropSurfaceReply index s).state := by
  unfold dropSurfaceReply
  repeat' split
  all_goals exact .refl s

theorem setWindowReply_queues (p : WindowParams) (s : State) : QueuesStay s (setWindowReply p s).state := by
  unfold setWindowReply
  repeat' split
  all_goals exact .refl s

theorem openStaged_queues (i : Fin 16) (s : State) : QueuesStay s (openStaged i s).state := by
  unfold openStaged
  split
  · exact .refl s
  · split
    · exact .refl s
    · dsimp only
      split
      · exact .refl s
      · split <;> exact .refl s

theorem openWindowReply_queues (index : Byte) (s : State) : QueuesStay s (openWindowReply index s).state := by
  unfold openWindowReply
  split
  · exact .refl s
  · split
    · exact .refl s
    · exact openStaged_queues _ s

theorem closeOpen_queues (i : Fin 16) (s : State) : QueuesStay s (closeOpen i s) := by
  obtain ⟨-, h⟩ | ⟨-, h⟩ := closeOpen_cases i s
  · rw [h]; exact ⟨rfl, rfl, notices_toStaged i s⟩
  · rw [h]; exact .refl s

theorem closeWindowReply_queues (index : Byte) (s : State) : QueuesStay s (closeWindowReply index s).state := by
  unfold closeWindowReply
  split
  · exact .refl s
  · split
    · exact .refl s
    · split
      · exact closeOpen_queues _ s
      · exact .refl s

theorem resumeWindowReply_queues (index : Byte) (s : State) : QueuesStay s (resumeWindowReply index s).state := by
  unfold resumeWindowReply
  repeat' split
  all_goals exact .refl s

theorem clearAllReply_queues (s : State) : QueuesStay s (clearAllReply s).state := by
  unfold clearAllReply
  split
  · exact .refl s
  · simp only [done]
    exact ⟨endClearAll_oq (startClearAll s), endClearAll_hsp (startClearAll s), notices_endClearAll (startClearAll s)⟩

theorem readSurfaceReply_queues (index : Byte) (s : State) : QueuesStay s (readSurfaceReply index s).state := by
  unfold readSurfaceReply
  split <;> exact .refl s

theorem readWindowReply_queues (index : Byte) (s : State) : QueuesStay s (readWindowReply index s).state := by
  unfold readWindowReply
  split <;> exact .refl s

theorem fenceReply_portMove (s : State) : PortMove s (fenceReply s).state := by
  unfold fenceReply
  split
  · exact .refused s
  · rename_i hroom
    split
    · rename_i hempty; exact .fenceAtOnce hempty
    · rename_i m rest hmops; exact .fencePlaced (by omega) (by simp [hmops])

theorem popFaultReply_portMove (s : State) : PortMove s (popFaultReply s).state := by
  unfold popFaultReply
  split
  · exact .refused s
  · exact .pop s

/-- Taking a command is one move of the port with its answer; an event of another port changes nothing (R149). -/
theorem takeCommand_portMove (c : Instr) (s : State) :
    takeCommand c s = s ∨ ∃ code params r, takeCommand c s = answer code params r ∧ PortMove s r.state := by
  cases c with
  | getStatus => exact .inr ⟨_, _, _, rfl, .refused s⟩
  | configure timeout enables => exact .inr ⟨_, _, done _ [], rfl, .configure timeout enables s⟩
  | ackNotice mask => exact .inr ⟨_, _, done _ [], rfl, .acknowledge mask s⟩
  | linkRecover => exact .inr ⟨_, _, done _ _, rfl, .recover s⟩
  | setSurface p => exact .inr ⟨_, _, _, rfl, .tables (setSurfaceReply_move p s) (setSurfaceReply_queues p s)⟩
  | dropSurface k => exact .inr ⟨_, _, _, rfl, .tables (dropSurfaceReply_move k s) (dropSurfaceReply_queues k s)⟩
  | readSurface k => exact .inr ⟨_, _, _, rfl, .tables (readSurfaceReply_move k s) (readSurfaceReply_queues k s)⟩
  | setWindow p => exact .inr ⟨_, _, _, rfl, .tables (setWindowReply_move p s) (setWindowReply_queues p s)⟩
  | openWindow i => exact .inr ⟨_, _, _, rfl, .tables (openWindowReply_move i s) (openWindowReply_queues i s)⟩
  | closeWindow i => exact .inr ⟨_, _, _, rfl, .tables (closeWindowReply_move i s) (closeWindowReply_queues i s)⟩
  | resumeWindow i => exact .inr ⟨_, _, _, rfl, .tables (resumeWindowReply_move i s) (resumeWindowReply_queues i s)⟩
  | readWindow i => exact .inr ⟨_, _, _, rfl, .tables (readWindowReply_move i s) (readWindowReply_queues i s)⟩
  | fence => exact .inr ⟨_, _, _, rfl, fenceReply_portMove s⟩
  | popFault => exact .inr ⟨_, _, _, rfl, popFaultReply_portMove s⟩
  | clearAll => exact .inr ⟨_, _, _, rfl, .tables (clearAllReply_move s) (clearAllReply_queues s)⟩
  | unknownCommand code => exact .inr ⟨_, _, _, rfl, .refused s⟩
  | requestHandshake | entryAnswered | issue | memoryResponse | expiry | smCsNFall | smCsNRise | resetNLow
  | resetNRelease | smSckRisingEdge => exact .inl rfl

/-! ### One step on the queues -/

/-- What a step can do to the queues, the tables and the fault unit: a run of queue moves, one move of the port, or the
reset values. -/
inductive QueuesResult (s t : State) : Prop where
  | run : QueueRun s t → QueuesResult s t
  | port (s' u : State) : SameQueues s s' → PortMove s' u → SameQueues u t → QueuesResult s t
  | reset : SameQueues State.reset t → QueuesResult s t

theorem QueuesResult.of_sameQueues {s t : State} (h : SameQueues s t) : QueuesResult s t :=
  .run (.single (.elsewhere h))

theorem queuesResult_takeCommand {s s' : State} (hs : SameQueues s s') (c : Instr) :
    QueuesResult s (takeCommand c s') := by
  obtain h | ⟨code, params, r, h, hmove⟩ := takeCommand_portMove c s'
  · rw [h]; exact .of_sameQueues hs
  · rw [h]; exact .port s' r.state hs hmove ⟨rfl, rfl, rfl, rfl, rfl, rfl⟩

theorem queuesResult_unlessReset {s : State} {f : State → State} (h : QueuesResult s (f s)) :
    QueuesResult s (unlessReset s f) := by
  unfold unlessReset
  split
  · exact h
  · exact .of_sameQueues (.refl s)

theorem queuesResult_completeCommandByte (code : Byte) {s s' : State} (hs : SameQueues s s') :
    QueuesResult s (completeCommandByte code s') := by
  obtain ⟨-, h⟩ | h := completeCommandByte_cases code s'
  · rw [h]
    obtain ⟨hst, hwt, hoq, hentries, hnext, hfu⟩ := hs
    exact .of_sameQueues ⟨hst, hwt, hoq, hentries, hnext, hfu⟩
  · rw [h]; exact queuesResult_takeCommand hs _

theorem queuesResult_clockEdge (di : Bool) (s : State) : QueuesResult s (clockEdge di s) := by
  obtain ⟨f, h⟩ | ⟨m, h⟩ := clockEdge_cases di s
  · rw [h]; exact .of_sameQueues ⟨rfl, rfl, rfl, rfl, rfl, rfl⟩
  · rw [h]; exact queuesResult_takeCommand (.refl s) m

/-- The management commands are those whose row takes the command at once. -/
theorem queuesResult_management {c : Instr} {s t : State} (h : exec c s = .next t)
    (hc : exec c s = .next (unlessReset s (takeCommand c))) : QueuesResult s t := by
  rw [hc] at h
  cases h
  exact queuesResult_unlessReset (queuesResult_takeCommand (.refl s) c)

theorem exec_queues {c : Instr} {s t : State} (h : exec c s = .next t) : QueuesResult s t := by
  cases c with
  | requestHandshake r => cases h; exact .run (queueRun_driveRequest r s)
  | entryAnswered => cases h; exact .run (queueRun_unlessReset (.single (.answered s)))
  | issue => cases h; exact .run (queueRun_unlessReset (queueRun_issueNext s))
  | memoryResponse k st data => cases h; exact .run (queueRun_unlessReset (queueRun_acceptResponse k st data s))
  | expiry k => cases h; exact .run (queueRun_unlessReset (queueRun_reachDeadline k s))
  | getStatus | configure | ackNotice | setSurface | dropSurface | readSurface | setWindow | openWindow | closeWindow
  | resumeWindow | readWindow | fence | popFault | linkRecover | clearAll => exact queuesResult_management h rfl
  | unknownCommand code =>
    cases h
    exact queuesResult_unlessReset (queuesResult_completeCommandByte code ⟨rfl, rfl, rfl, rfl, rfl, rfl⟩)
  | smSckRisingEdge di =>
    cases h
    refine queuesResult_unlessReset ?_
    split
    · exact .of_sameQueues (.refl s)
    · exact queuesResult_clockEdge di s
  | smCsNFall => cases h; unfold csFall; split <;> exact .of_sameQueues ⟨rfl, rfl, rfl, rfl, rfl, rfl⟩
  | smCsNRise => cases h; unfold csRise; split <;> exact .of_sameQueues ⟨rfl, rfl, rfl, rfl, rfl, rfl⟩
  | resetNLow => cases h; exact .reset ⟨rfl, rfl, rfl, rfl, rfl, rfl⟩
  | resetNRelease => cases h; exact .of_sameQueues ⟨rfl, rfl, rfl, rfl, rfl, rfl⟩

/-- A relation between the blocks that the reset values meet and that every queue move and every move of the management
port keep is kept by every step. -/
theorem step_keeps_queues {P : State → Prop} (hsame : ∀ {s t}, SameQueues s t → P s → P t)
    (hqueue : ∀ {s t}, QueueMove s t → P s → P t) (hport : ∀ {s t}, PortMove s t → P s → P t)
    (hreset : P State.reset) {s t : State} (h : step s = .next t) (hs : P s) : P t := by
  unfold step at h
  split at h
  · cases h
    exact (queueRun_unlessReset (queueRun_tick s)).keeps hqueue hs
  · rename_i c rest _
    have htaken : P { s with pending := rest } := hsame (s := s) ⟨rfl, rfl, rfl, rfl, rfl, rfl⟩ hs
    cases exec_queues h with
    | run hrun => exact hrun.keeps hqueue htaken
    | port s' u hs' hmove ht => exact hsame ht (hport hmove (hsame hs' htaken))
    | reset ht => exact hsame ht hreset

end Sys2Proof.Proofs
end

section
/-! PROOF. Every step keeps capacities, counters in range and notice flags equal to their sets. -/

namespace Sys2Proof.Proofs

open Sys2Proof.Machine Sys2Proof.Safety Sys2Proof.Claims

/-! ### Counters -/

/-- The three counters of a window lie in range (R19). -/
def CountersFit (c : Counters) : Prop :=
  c.accepted ≤ Config.counterMax ∧ c.refused ≤ Config.counterMax ∧ c.cancelled ≤ Config.counterMax

theorem countersInRange_iff (s : State) : CountersInRange s ↔ ∀ i, CountersFit (s.window i).counters := Iff.rfl

theorem countersFit_zero : CountersFit Counters.zero := ⟨Nat.zero_le _, Nat.zero_le _, Nat.zero_le _⟩

theorem countUp_le (c n : Nat) : countUp c n ≤ Config.counterMax := Nat.min_le_left _ _

theorem countersInRange_of_windows {s t : State} (h : ∀ i, t.window i = s.window i) (hs : CountersInRange s) :
    CountersInRange t :=
  fun i => by rw [h i]; exact hs i

theorem countersInRange_withWindow {s : State} {i : Fin 16} {w : Window} (hw : CountersFit w.counters)
    (hs : CountersInRange s) : CountersInRange (s.withWindow i w) :=
  forall_window_withWindow (P := fun _ w => CountersFit w.counters) (fun j _ => hs j) hw

theorem TrafficMove.countersInRange {s t : State} (h : TrafficMove s t) (hs : CountersInRange s) :
    CountersInRange t := by
  cases h with
  | elsewhere h _ => exact countersInRange_of_windows h.window hs
  | leave i =>
    exact forall_window_leaveWindow (P := fun _ w => CountersFit w.counters) (fun j _ => hs j) (hs i)
      fun _ => ⟨hs i, countersFit_zero⟩
  | halt i n _ =>
    obtain ⟨ha, hr, -⟩ := hs i
    exact countersInRange_withWindow ⟨ha, hr, countUp_le _ _⟩ hs
  | accept i n _ =>
    obtain ⟨-, hr, hc⟩ := hs i
    exact countersInRange_withWindow ⟨countUp_le _ _, hr, hc⟩ hs
  | turnAway i _ =>
    obtain ⟨ha, -, hc⟩ := hs i
    exact countersInRange_withWindow ⟨ha, countUp_le _ _, hc⟩ hs

/-- CLEAR_ALL keeps a window's counters or makes them 0 (R19, R34). -/
theorem countersFit_cleared {w : Window} (h : CountersFit w.counters) : CountersFit w.cleared.counters := by
  have hopen : w.matching = true → CountersFit w.cleared.counters := by
    intro hm
    rw [cleared_of_matching hm]
    split
    · exact countersFit_zero
    · exact h
  cases hstate : w.state with
  | empty | staged =>
    have hemptied : CountersFit (Window.emptied w.generation).counters := countersFit_zero
    simpa only [Window.cleared, hstate] using hemptied
  | live => exact hopen (matching_of_live hstate)
  | halted => exact hopen (matching_of_halted hstate)
  | closing => simpa only [Window.cleared, hstate] using h

theorem CommandMove.countersInRange {s t : State} (h : CommandMove s t) (hs : CountersInRange s) :
    CountersInRange t := by
  cases h with
  | elsewhere h _ => exact countersInRange_of_windows h.window hs
  | define | drop => exact countersInRange_of_windows (fun _ => rfl) hs
  | stage i kind sf p _ _ _ => exact countersInRange_withWindow (hs i) hs
  | opening i d _ _ _ _ _ =>
    have hopened : CountersInRange (s.withWindow i ((s.window i).opened (deriveFields (s.window i).staged d.format))) :=
      countersInRange_withWindow countersFit_zero hs
    exact countersInRange_of_windows (fun _ => rfl) hopened
  | close i _ _ =>
    obtain ⟨-, h⟩ | ⟨-, h⟩ := closeOpen_cases i s
    · rw [h]; exact forall_window_toStaged (P := fun _ w => CountersFit w.counters) (fun j _ => hs j) (hs i)
    · rw [h]; exact countersInRange_withWindow (hs i) hs
  | resume i _ _ => exact countersInRange_withWindow (hs i) hs
  | clear _ =>
    refine (countersInRange_iff _).2 fun i => ?_
    rw [endClearAll_window, startClearAll_window]
    exact countersFit_cleared (hs i)

theorem step_countersInRange {s t : State} (h : step s = .next t) (hs : CountersInRange s) : CountersInRange t :=
  step_keeps_tables (P := CountersInRange) (fun h => countersInRange_of_windows h.window)
    (fun h => h.countersInRange) (fun h => h.countersInRange) countersInRange_reset h hs

/-! ### Notice flags and their sets -/

/-- `FlagsMatchSets` as a property of the fault unit. -/
def FlagsFit (fu : FaultUnit) : Prop :=
  (fu.notices.windowClosed = true ↔ fu.closedSet ≠ 0#16) ∧ (fu.notices.windowHalted = true ↔ fu.haltedSet ≠ 0#16)

theorem flagsMatchSets_iff (s : State) : FlagsMatchSets s ↔ FlagsFit s.fu := Iff.rfl

theorem flagsMatchSets_of_fu {s t : State} (h : t.fu = s.fu) (hs : FlagsMatchSets s) : FlagsMatchSets t := by
  rw [flagsMatchSets_iff, h]
  exact hs

/-- A window set that a window has entered is not empty (R141). -/
theorem or_windowBit_ne_zero (x : BitVec 16) (i : Fin 16) : x ||| windowBit i ≠ 0#16 := by
  intro h
  have hbit : (x ||| windowBit i).getLsbD i.val = true := by simp [windowBit]
  simp [h] at hbit

theorem NoticeMove.flagsFit {fu fu' : FaultUnit} (h : NoticeMove fu fu') (hs : FlagsFit fu) : FlagsFit fu' := by
  cases h with
  | fenceDone | clearDone => exact hs
  | windowClosed i => exact ⟨iff_of_true rfl (or_windowBit_ne_zero _ i), hs.2⟩

theorem NoticeRun.flagsFit {fu fu' : FaultUnit} (h : NoticeRun fu fu') (hs : FlagsFit fu) : FlagsFit fu' :=
  h.keeps (P := FlagsFit) (fun move => move.flagsFit) hs

theorem flagsFit_noticeWindowHalted (i : Fin 16) {fu : FaultUnit} (hs : FlagsFit fu) :
    FlagsFit (noticeWindowHalted i fu) :=
  ⟨hs.1, iff_of_true rfl (or_windowBit_ne_zero _ i)⟩

theorem flagsFit_logFault (r : FaultRecord) {fu : FaultUnit} (hs : FlagsFit fu) : FlagsFit (logFault r fu) := by
  obtain ⟨-, h⟩ | ⟨-, h⟩ := logFault_cases r fu <;> (rw [h]; exact hs)

/-- An acknowledged window notice loses its flag and its set together (R142). -/
theorem flagsFit_acknowledge (mask : Byte) {fu : FaultUnit} (hs : FlagsFit fu) : FlagsFit (acknowledge mask fu) := by
  obtain ⟨hclosed, hhalted⟩ := hs
  have hcleared : ∀ (flag b : Bool) (set : BitVec 16), (flag = true ↔ set ≠ 0#16) →
      ((flag && !b) = true ↔ (if b then 0#16 else set) ≠ 0#16) := by
    intro flag b set h
    cases b with
    | false => simpa using h
    | true => simp
  exact ⟨hcleared _ _ _ hclosed, hcleared _ _ _ hhalted⟩

theorem QueueMove.flagsMatchSets {s t : State} (h : QueueMove s t) (hs : FlagsMatchSets s) : FlagsMatchSets t := by
  cases h with
  | elsewhere h => exact flagsMatchSets_of_fu h.fu hs
  | issue | combine | pass | serve | turnAway => exact hs
  | remove m _ => exact (notices_removeMop m s).flagsFit hs
  | linked m f => exact flagsMatchSets_of_fu (onLinkedEntry_fu m f s) hs
  | answered => exact flagsMatchSets_of_fu (answerHead_fu s) hs
  | record r => exact flagsFit_logFault r hs
  | halt i _ => exact (notices_haltWindow i s).flagsFit (flagsFit_noticeWindowHalted i hs)
  | push a n error _ => exact flagsMatchSets_of_fu (pushEntry_fu a n error s) hs

theorem PortMove.flagsMatchSets {s t : State} (h : PortMove s t) (hs : FlagsMatchSets s) : FlagsMatchSets t := by
  cases h with
  | tables _ hstay =>
    obtain ⟨-, -, hnotices⟩ := hstay
    exact hnotices.flagsFit hs
  | acknowledge mask => exact flagsFit_acknowledge mask hs
  | configure | recover | pop | fenceAtOnce | fencePlaced => exact hs

theorem step_flagsMatchSets {s t : State} (h : step s = .next t) (hs : FlagsMatchSets s) : FlagsMatchSets t :=
  step_keeps_queues (P := FlagsMatchSets) (fun h => flagsMatchSets_of_fu h.fu) (fun h => h.flagsMatchSets)
    (fun h => h.flagsMatchSets) flagsMatchSets_reset h hs

/-! ### Capacities -/

/-- The fault log and the lost counter stay in range. -/
def LogFits (fu : FaultUnit) : Prop := fu.log.length ≤ Config.logCapacity ∧ fu.lost ≤ Config.lostMax

theorem withinCapacity_iff (s : State) :
    WithinCapacity s
      ↔ s.oq.mops.length ≤ Config.oqCapacity ∧ s.oq.fences.length ≤ Config.fenceCapacity
        ∧ s.hsp.entries.length ≤ Config.rqCapacity ∧ LogFits s.fu := Iff.rfl

theorem NoticeMove.logFits {fu fu' : FaultUnit} (h : NoticeMove fu fu') (hs : LogFits fu) : LogFits fu' := by
  cases h with
  | fenceDone | windowClosed | clearDone => exact hs

theorem NoticeRun.logFits {fu fu' : FaultUnit} (h : NoticeRun fu fu') (hs : LogFits fu) : LogFits fu' :=
  h.keeps (P := LogFits) (fun move => move.logFits) hs

theorem logFits_logFault (r : FaultRecord) {fu : FaultUnit} (hs : LogFits fu) : LogFits (logFault r fu) := by
  obtain ⟨hlog, hlost⟩ := hs
  obtain ⟨hroom, h⟩ | ⟨-, h⟩ := logFault_cases r fu
  · rw [h]
    refine ⟨?_, hlost⟩
    simp only [List.length_append, List.length_singleton]
    omega
  · rw [h]
    exact ⟨hlog, Nat.min_le_left _ _⟩

theorem withinCapacity_of_sameQueues {s t : State} (h : SameQueues s t) (hs : WithinCapacity s) :
    WithinCapacity t := by
  rw [withinCapacity_iff, h.oq, h.entries, h.fu]
  exact hs

/-- MOPs and fences leave the queue, and fault unit and response queue stay in range. -/
theorem withinCapacity_of_sublists {s t : State} (hmops : t.oq.mops.length ≤ s.oq.mops.length)
    (hfences : t.oq.fences.length ≤ s.oq.fences.length) (hentries : t.hsp.entries.length ≤ s.hsp.entries.length)
    (hfu : LogFits s.fu → LogFits t.fu) (hs : WithinCapacity s) : WithinCapacity t := by
  obtain ⟨hm, hf, he, hl⟩ := (withinCapacity_iff s).1 hs
  exact (withinCapacity_iff t).2 ⟨hmops.trans hm, hfences.trans hf, hentries.trans he, hfu hl⟩

theorem removeMop_withinCapacity (m : Mop) {s : State} (hs : WithinCapacity s) : WithinCapacity (removeMop m s) := by
  refine withinCapacity_of_sublists ?_ ?_ ?_ (notices_removeMop m s).logFits hs
  · rw [removeMop_mops]; exact List.length_filter_le _ _
  · rw [removeMop_fences]; exact List.length_filter_le _ _
  · rw [removeMop_hsp]

theorem haltWindow_withinCapacity (i : Fin 16) {s : State} (hs : WithinCapacity s) :
    WithinCapacity (haltWindow i s) := by
  refine withinCapacity_of_sublists ?_ ?_ ?_ (fun h => (notices_haltWindow i s).logFits h) hs
  · rw [haltWindow_mops]; exact List.length_filter_le _ _
  · rw [haltWindow_fences]; exact List.length_filter_le _ _
  · rw [haltWindow_entries]; exact (List.length_map _).le

theorem admitMops_withinCapacity {a : Access} {s : State} (h : admissible s a = true) (hs : WithinCapacity s) :
    WithinCapacity (admitMops a s) := by
  obtain ⟨hm, hrest⟩ := (withinCapacity_iff s).1 hs
  exact ⟨queueAfter_length_of_admissible h hm, hrest⟩

theorem QueueMove.withinCapacity {s t : State} (h : QueueMove s t) (hs : WithinCapacity s) : WithinCapacity t := by
  cases h with
  | elsewhere h => exact withinCapacity_of_sameQueues h hs
  | issue | combine => exact withinCapacity_of_sublists (List.length_map _).le le_rfl le_rfl id hs
  | remove m _ => exact removeMop_withinCapacity m hs
  | linked m f => exact withinCapacity_of_sublists (by simp) (by simp) (by simp) (by simp) hs
  | answered =>
    obtain h | ⟨e, rest, he, h⟩ := answerHead_cases s
    · rw [h]; exact hs
    · rw [h]; exact withinCapacity_of_sublists (s := s) le_rfl le_rfl (by simp [he]) id hs
  | record r => exact withinCapacity_of_sublists (s := s) le_rfl le_rfl le_rfl (logFits_logFault r) hs
  | halt i _ => exact haltWindow_withinCapacity i hs
  | pass a _ h => exact admitMops_withinCapacity h hs
  | serve i a _ _ h => exact admitMops_withinCapacity (a := a) h hs
  | turnAway i => exact hs
  | push a n error hroom =>
    obtain ⟨-, h⟩ | ⟨hread, h⟩ := pushEntry_cases a n error s
    · rw [h]; exact hs
    · obtain ⟨hm, hf, -, hl⟩ := (withinCapacity_iff s).1 hs
      have hroom' : s.hsp.entries.length < Config.rqCapacity := hroom.resolve_left (by simp [hread])
      rw [h]
      exact (withinCapacity_iff _).2 ⟨hm, hf, by simpa using hroom', hl⟩

theorem PortMove.withinCapacity {s t : State} (h : PortMove s t) (hs : WithinCapacity s) : WithinCapacity t := by
  obtain ⟨hm, hf, he, hlog, hlost⟩ := hs
  cases h with
  | tables _ hstay =>
    obtain ⟨hoq, hhsp, hnotices⟩ := hstay
    rw [withinCapacity_iff, hoq, hhsp]
    exact ⟨hm, hf, he, hnotices.logFits ⟨hlog, hlost⟩⟩
  | acknowledge mask =>
    refine ⟨hm, hf, he, hlog, ?_⟩
    show (if mask.getLsbD 0 then 0 else s.fu.lost) ≤ Config.lostMax
    split
    · exact Nat.zero_le _
    · exact hlost
  | pop =>
    refine ⟨hm, hf, he, ?_, hlost⟩
    show s.fu.log.tail.length ≤ Config.logCapacity
    rw [List.length_tail]
    omega
  | fencePlaced hroom _ =>
    refine ⟨hm, ?_, he, hlog, hlost⟩
    simpa [placeFence, useFenceNumber] using hroom
  | configure | recover | fenceAtOnce => exact ⟨hm, hf, he, hlog, hlost⟩

theorem step_withinCapacity {s t : State} (h : step s = .next t) (hs : WithinCapacity s) : WithinCapacity t :=
  step_keeps_queues (P := WithinCapacity) withinCapacity_of_sameQueues (fun h => h.withinCapacity)
    (fun h => h.withinCapacity) withinCapacity_reset h hs

/-- Settles O51: each of the three relations is kept by every single move. -/
theorem stepKeepsCapacitiesAndCounters : Obligations.StepKeepsCapacitiesAndCounters :=
  fun _ _ h => ⟨step_withinCapacity h, step_countersInRange h, step_flagsMatchSets h⟩

end Sys2Proof.Proofs
end

section
/-! PROOF. Every step keeps the order queue in creation order, each in-flight count equal to the MOPs that carry the
window's tag, and each tag that of an open or closing window in its current generation. -/

namespace Sys2Proof.Proofs

open Sys2Proof.Machine Sys2Proof.Safety Sys2Proof.Claims

/-! ### Creation order by keys -/

/-- A run of serial numbers in creation order, all below the next one (R89). -/
def IdsAscend (ids : List Nat) (next : Nat) : Prop := ids.Pairwise (· < ·) ∧ ∀ id ∈ ids, id < next

theorem creationOrder_iff (s : State) : CreationOrder s ↔ IdsAscend (s.oq.mops.map Mop.id) s.oq.nextId := by
  simp [CreationOrder, IdsAscend, List.pairwise_map]

theorem IdsAscend.sublist {ids ids' : List Nat} {next : Nat} (hsub : ids'.Sublist ids) (h : IdsAscend ids next) :
    IdsAscend ids' next :=
  ⟨h.1.sublist hsub, fun id hid => h.2 id (hsub.subset hid)⟩

/-- Younger serial numbers join at the young end. -/
theorem IdsAscend.append {ids new : List Nat} {next next' : Nat} (h : IdsAscend ids next) (hnew : IdsAscend new next')
    (hyoung : ∀ id ∈ new, next ≤ id) (hnext : next ≤ next') : IdsAscend (ids ++ new) next' := by
  obtain ⟨hpairs, hbound⟩ := h
  obtain ⟨hpairs', hbound'⟩ := hnew
  refine ⟨List.pairwise_append.2 ⟨hpairs, hpairs', fun a ha b hb => ?_⟩, fun id hid => ?_⟩
  · exact (hbound a ha).trans_le (hyoung b hb)
  · obtain hid | hid := List.mem_append.1 hid
    · exact (hbound id hid).trans_le hnext
    · exact hbound' id hid

theorem map_id_of_keys {l l' : List Mop} (h : l'.map mopKey = l.map mopKey) : l'.map Mop.id = l.map Mop.id := by
  simpa [mopKey, Function.comp_def] using congrArg (List.map Prod.fst) h

theorem map_window_of_keys {l l' : List Mop} (h : l'.map mopKey = l.map mopKey) :
    l'.map Mop.window = l.map Mop.window := by
  simpa [mopKey, Function.comp_def] using congrArg (List.map Prod.snd) h

/-! ### Flights of one window -/

/-- Does the tag name this window? -/
def tagNames (i : Fin 16) (t : Option WindowTag) : Bool := t.map WindowTag.index = some i

theorem ofWindow_eq_tagNames (m : Mop) (i : Fin 16) : m.ofWindow i = tagNames i m.window := by
  unfold Mop.ofWindow tagNames
  cases m.window <;> simp

@[simp] theorem tagNames_none (i : Fin 16) : tagNames i none = false := rfl

@[simp] theorem tagNames_some (i : Fin 16) (t : WindowTag) : tagNames i (some t) = decide (t.index = i) := by
  simp [tagNames]

/-- Against the window tags of a queue, the in-flight count of window `i` is exact, and the tags that name it carry its
current generation and find it holding its surface (R20). -/
def Flights (tags : List (Option WindowTag)) (i : Fin 16) (w : Window) : Prop :=
  w.inFlight = tags.countP (tagNames i)
    ∧ ∀ t : WindowTag, some t ∈ tags → t.index = i → w.holds = true ∧ w.generation = t.generation

/-- The window tags of the MOPs of a state. -/
def tagsOf (s : State) : List (Option WindowTag) := s.oq.mops.map Mop.window

theorem countP_ofWindow (mops : List Mop) (i : Fin 16) :
    mops.countP (fun m => m.ofWindow i) = (mops.map Mop.window).countP (tagNames i) := by
  rw [List.countP_map]
  exact List.countP_congr fun m _ => by rw [ofWindow_eq_tagNames]; rfl

/-- The in-flight relation holds window by window (R20). -/
theorem inFlightExact_iff (s : State) : InFlightExact s ↔ ∀ i, Flights (tagsOf s) i (s.window i) := by
  simp only [InFlightExact, Flights, countP_ofWindow, tagsOf]
  constructor
  · rintro ⟨hcount, htags⟩ i
    refine ⟨hcount i, ?_⟩
    rintro t ht rfl
    obtain ⟨m, hm, hw⟩ := List.mem_map.1 ht
    exact htags m hm t hw
  · intro h
    exact ⟨fun i => (h i).1, fun m hm t ht => (h t.index).2 t (List.mem_map.2 ⟨m, hm, ht⟩) rfl⟩

theorem countP_tagNames_eq_zero {tags : List (Option WindowTag)} {i : Fin 16} :
    tags.countP (tagNames i) = 0 ↔ ∀ t : WindowTag, some t ∈ tags → t.index ≠ i := by
  rw [List.countP_eq_zero]
  constructor
  · intro h t ht hi
    exact h (some t) ht (by simp [hi])
  · intro h t ht
    cases t with
    | none => simp
    | some t => simpa using h t ht

/-- Without tags that name it, a window with count 0 may be in any state. -/
theorem Flights.of_zero {tags : List (Option WindowTag)} {i : Fin 16} {w : Window}
    (htags : tags.countP (tagNames i) = 0) (hw : w.inFlight = 0) : Flights tags i w :=
  ⟨hw.trans htags.symm, fun t ht hi => absurd hi (countP_tagNames_eq_zero.1 htags t ht)⟩

/-- A window that holds no surface has no MOP in the queue (R20). -/
theorem Flights.count_of_free {tags : List (Option WindowTag)} {i : Fin 16} {w : Window} (h : Flights tags i w)
    (hfree : w.holds = false) : tags.countP (tagNames i) = 0 := by
  refine countP_tagNames_eq_zero.2 fun t ht hi => ?_
  simp [(h.2 t ht hi).1] at hfree

/-- A window that keeps its count, and while it holds its surface its hold and its generation, keeps its flights. -/
theorem Flights.congr {tags : List (Option WindowTag)} {i : Fin 16} {w w' : Window} (h : Flights tags i w)
    (hcount : w'.inFlight = w.inFlight)
    (hholds : w.holds = true → w'.holds = true ∧ w'.generation = w.generation) : Flights tags i w' := by
  refine ⟨hcount.trans h.1, fun t ht hi => ?_⟩
  obtain ⟨hold, hgen⟩ := h.2 t ht hi
  obtain ⟨hold', hgen'⟩ := hholds hold
  exact ⟨hold', hgen'.trans hgen⟩

/-- A window whose count is 0 may leave for any state with count 0. -/
theorem Flights.emptied {tags : List (Option WindowTag)} {i : Fin 16} {w w' : Window} (h : Flights tags i w)
    (hcount : w.inFlight = 0) (hcount' : w'.inFlight = 0) : Flights tags i w' :=
  .of_zero (h.1.symm.trans hcount) hcount'

/-- Tags that leave lower the count of the window that they name. -/
theorem Flights.sublist {tags tags' : List (Option WindowTag)} {i : Fin 16} {w w' : Window} (h : Flights tags i w)
    (hsub : tags' ⊆ tags) (hcount : w'.inFlight = tags'.countP (tagNames i))
    (hholds : w.holds = true → w'.holds = true ∧ w'.generation = w.generation) : Flights tags' i w' := by
  refine ⟨hcount, fun t ht hi => ?_⟩
  obtain ⟨hold, hgen⟩ := h.2 t (hsub ht) hi
  obtain ⟨hold', hgen'⟩ := hholds hold
  exact ⟨hold', hgen'.trans hgen⟩

/-- Tags that join raise the count of the window that they name, which holds its surface. -/
theorem Flights.append {tags new : List (Option WindowTag)} {i : Fin 16} {w w' : Window} (h : Flights tags i w)
    (hcount : w'.inFlight = w.inFlight + new.countP (tagNames i)) (hholds : w'.holds = w.holds)
    (hgen : w'.generation = w.generation)
    (hnew : ∀ t : WindowTag, some t ∈ new → t.index = i → w.holds = true ∧ w.generation = t.generation) :
    Flights (tags ++ new) i w' := by
  obtain ⟨hold, htags⟩ := h
  refine ⟨by rw [hcount, hold, List.countP_append], fun t ht hi => ?_⟩
  rw [hholds, hgen]
  obtain ht | ht := List.mem_append.1 ht
  · exact htags t ht hi
  · exact hnew t ht hi

/-! ### Soundness of the queue, by keys and windows -/

theorem queueSound_iff (s : State) :
    QueueSound s ↔ IdsAscend (s.oq.mops.map Mop.id) s.oq.nextId ∧ ∀ i, Flights (tagsOf s) i (s.window i) := by
  rw [QueueSound, creationOrder_iff, inFlightExact_iff]

/-- The same keys, the same next number, and windows that keep their flights. -/
theorem queueSound_of_windows {s t : State} (hkeys : t.oq.mops.map mopKey = s.oq.mops.map mopKey)
    (hnext : t.oq.nextId = s.oq.nextId)
    (hwindows : (∀ i, Flights (tagsOf s) i (s.window i)) → ∀ i, Flights (tagsOf s) i (t.window i))
    (hs : QueueSound s) : QueueSound t := by
  obtain ⟨hids, hflights⟩ := (queueSound_iff s).1 hs
  have htags : tagsOf t = tagsOf s := map_window_of_keys hkeys
  rw [queueSound_iff, map_id_of_keys hkeys, hnext, htags]
  exact ⟨hids, hwindows hflights⟩

theorem queueSound_of_sameWindows {s t : State} (hkeys : t.oq.mops.map mopKey = s.oq.mops.map mopKey)
    (hnext : t.oq.nextId = s.oq.nextId) (hwindows : ∀ i, t.window i = s.window i) (hs : QueueSound s) :
    QueueSound t :=
  queueSound_of_windows hkeys hnext (fun h i => by rw [hwindows i]; exact h i) hs

theorem updateMop_keys {f : Mop → Mop} (hf : ∀ m, mopKey (f m) = mopKey m) (id : Nat) (mops : List Mop) :
    (updateMop id f mops).map mopKey = mops.map mopKey := by
  rw [updateMop, List.map_map]
  refine List.map_congr_left fun m _ => ?_
  simp only [Function.comp]
  split
  · exact hf m
  · rfl

theorem combinedMop_key (data : Block) (m : Mop) : mopKey (combinedMop data m) = mopKey m := by
  unfold combinedMop
  split <;> rfl

/-! ### Removal -/

/-- In a queue in creation order the removal of one of its MOPs takes that MOP alone (R89). -/
theorem perm_dropMop {mops : List Mop} {m : Mop} (hids : (mops.map Mop.id).Pairwise (· < ·)) (hm : m ∈ mops) :
    mops.Perm (m :: dropMop m.id mops) := by
  obtain ⟨older, younger, rfl⟩ := List.append_of_mem hm
  rw [List.pairwise_map, List.pairwise_append, List.pairwise_cons] at hids
  obtain ⟨-, ⟨hyoung, -⟩, hold⟩ := hids
  have holder : older.filter (fun x => x.id ≠ m.id) = older :=
    List.filter_eq_self.2 fun x hx => by
      have := hold x hx m List.mem_cons_self
      simp; omega
  have hyounger : younger.filter (fun x => x.id ≠ m.id) = younger :=
    List.filter_eq_self.2 fun x hx => by
      have := hyoung x hx
      simp; omega
  rw [dropMop, List.filter_append, List.filter_cons_of_neg (by simp), holder, hyounger]
  exact List.perm_middle

/-- The window whose MOP has left: its count falls, and it may drain. -/
theorem flights_leaveTag {rest : List (Option WindowTag)} {t : Option WindowTag} {s : State}
    (hs : ∀ i, Flights (t :: rest) i (s.window i)) : ∀ i, Flights rest i ((leaveTag t s).window i) := by
  have hother : ∀ i, tagNames i t = false → Flights rest i (s.window i) := fun i hi =>
    (hs i).sublist (List.subset_cons_self t rest) ((hs i).1.trans (by simp [hi])) fun h => ⟨h, rfl⟩
  cases t with
  | none => exact fun i => hother i rfl
  | some t =>
    have hcount : (s.window t.index).inFlight = rest.countP (tagNames t.index) + 1 :=
      (hs t.index).1.trans (by simp)
    refine forall_window_leaveWindow (P := Flights rest) (fun j hj => hother j (by simpa using Ne.symm hj)) ?_ ?_
    · exact (hs t.index).sublist (List.subset_cons_self _ rest) (by simp [departed, hcount]) fun h => ⟨h, rfl⟩
    · intro hlast
      have hnone : rest.countP (tagNames t.index) = 0 := by omega
      exact ⟨.of_zero hnone (by simp [departed, hcount, hnone]), .of_zero hnone rfl⟩

theorem queueSound_removeMop {m : Mop} {s : State} (hm : m ∈ s.oq.mops) (hs : QueueSound s) :
    QueueSound (removeMop m s) := by
  obtain ⟨hids, hflights⟩ := (queueSound_iff s).1 hs
  have hperm : (tagsOf s).Perm (m.window :: (dropMop m.id s.oq.mops).map Mop.window) :=
    (perm_dropMop hids.1 hm).map Mop.window
  have hbefore : ∀ i, Flights (m.window :: (dropMop m.id s.oq.mops).map Mop.window) i (s.window i) := by
    intro i
    obtain ⟨hcount, htags⟩ := hflights i
    exact ⟨hcount.trans (hperm.countP_eq _), fun t ht => htags t (hperm.mem_iff.2 ht)⟩
  have hafter := flights_leaveTag (s := s.withMops (dropMop m.id s.oq.mops)) hbefore
  rw [queueSound_iff, tagsOf, removeMop_mops, removeMop_nextId]
  refine ⟨hids.sublist (List.filter_sublist.map _), fun i => ?_⟩
  have hwindow : (removeMop m s).window i = (leaveTag m.window (s.withMops (dropMop m.id s.oq.mops))).window i := by
    simp [State.window, removeMop]
  rw [hwindow]
  exact hafter i

/-! ### Halt -/

/-- What a halt leaves in flight and what it cancels make up the MOPs of the window (R31, R103). -/
theorem countP_halt (mops : List Mop) (i : Fin 16) :
    (mops.filter fun m => !m.cancelledBy i).countP (fun m => m.ofWindow i)
      + (mops.filter fun m => m.cancelledBy i).length = mops.countP fun m => m.ofWindow i := by
  have hall : (mops.filter fun m => m.cancelledBy i).countP (fun m => m.ofWindow i)
      = (mops.filter fun m => m.cancelledBy i).length :=
    List.countP_eq_length.2 fun m hm => by
      have hcancelled := (List.mem_filter.1 hm).2
      simp only [Mop.cancelledBy, Bool.and_eq_true] at hcancelled
      exact hcancelled.1
  have hsplit := List.countP_eq_countP_filter_add mops (fun m => m.ofWindow i) fun m => m.cancelledBy i
  omega

/-- A halt cancels no MOP of another window (R103). -/
theorem countP_halt_other (mops : List Mop) {i j : Fin 16} (h : j ≠ i) :
    (mops.filter fun m => !m.cancelledBy i).countP (fun m => m.ofWindow j) = mops.countP fun m => m.ofWindow j := by
  rw [List.countP_filter]
  refine List.countP_congr fun m _ => ?_
  have hkept : m.ofWindow j = true → m.cancelledBy i = false := by
    intro hj
    unfold Mop.ofWindow at hj
    unfold Mop.cancelledBy Mop.ofWindow
    cases hw : m.window with
    | none => rfl
    | some t =>
      simp only [hw, decide_eq_true_eq] at hj
      simp [hj, h]
  cases hj : m.ofWindow j with
  | false => simp
  | true => simp [hkept hj]

theorem queueSound_haltWindow {i : Fin 16} {s : State} (hlive : (s.window i).state = .live) (hs : QueueSound s) :
    QueueSound (haltWindow i s) := by
  obtain ⟨hids, hflights⟩ := (queueSound_iff s).1 hs
  rw [queueSound_iff, tagsOf, haltWindow_mops, haltWindow_nextId]
  refine ⟨hids.sublist (List.filter_sublist.map _), fun j => ?_⟩
  have hsub : (s.oq.mops.filter fun m => !m.cancelledBy i).map Mop.window ⊆ tagsOf s :=
    (List.filter_sublist.map _).subset
  have hcount := (hflights j).1
  rw [tagsOf, ← countP_ofWindow] at hcount
  rw [haltWindow_window]
  split
  · rename_i hj
    subst hj
    refine (hflights j).sublist hsub ?_ fun _ => ⟨rfl, rfl⟩
    rw [← countP_ofWindow]
    have hcancel := countP_halt s.oq.mops j
    simp only [Window.afterHalt]
    omega
  · rename_i hj
    refine (hflights j).sublist hsub ?_ fun h => ⟨h, rfl⟩
    rw [← countP_ofWindow, countP_halt_other _ hj, hcount]

/-! ### Admission -/

/-- The MOPs of an access: consecutive serial numbers, and one window tag (R50). -/
theorem mopsOfParts_keys (tag : Option WindowTag) (host : Word) : ∀ (parts : List BlockPart) (id : Nat),
    IdsAscend ((mopsOfParts id tag host parts).map Mop.id) (id + parts.length)
      ∧ ∀ m ∈ mopsOfParts id tag host parts, id ≤ m.id ∧ m.window = tag
  | [], id => ⟨⟨.nil, fun _ h => by cases h⟩, fun _ h => by cases h⟩
  | p :: rest, id => by
    obtain ⟨⟨hpairs, hbound⟩, hmops⟩ := mopsOfParts_keys tag host rest (id + 1)
    have hyoung : ∀ m ∈ mopsOfParts (id + 1) tag host rest, id < m.id := fun m hm => (hmops m hm).1
    simp only [mopsOfParts, List.map_cons, List.length_cons]
    refine ⟨⟨List.pairwise_cons.2 ⟨?_, hpairs⟩, ?_⟩, ?_⟩
    · simpa using hyoung
    · rintro x (_ | ⟨_, hx⟩)
      · show id < _
        omega
      · have := hbound x hx
        omega
    · rintro m (_ | ⟨_, hm⟩)
      · exact ⟨le_rfl, rfl⟩
      · exact ⟨(hyoung m hm).le, (hmops m hm).2⟩

/-- An access enters a sound queue: its MOPs stand behind the old ones, and their tag names a window that counts them
(R50, R53, R54). -/
theorem queueSound_admit {s t : State} {a : Access} (hmops : t.oq.mops = queueAfter s a)
    (hnext : t.oq.nextId = s.oq.nextId + (accessMops s a).length)
    (hwindows : ∀ i, (t.window i).holds = (s.window i).holds ∧ (t.window i).generation = (s.window i).generation
      ∧ (t.window i).inFlight
          = (s.window i).inFlight + if tagNames i (accessTag s a) then createdCount s a else 0)
    (hcurrent : ∀ w ∈ accessTag s a,
      (s.window w.index).holds = true ∧ (s.window w.index).generation = w.generation)
    (hs : QueueSound s) : QueueSound t := by
  obtain ⟨hids, hflights⟩ := (queueSound_iff s).1 hs
  obtain ⟨old, created, hqueue, hold, hcreated, hlength⟩ := queueAfter_eq s a
  obtain ⟨hnewIds, hnew⟩ :=
    mopsOfParts_keys (accessTag s a) (BitVec.ofNat 32 (accessAddr a)) (accessParts s a) s.oq.nextId
  rw [← mopsOfParts_length (accessTag s a) (BitVec.ofNat 32 (accessAddr a)) (accessParts s a) s.oq.nextId] at hnewIds
  have hmem : ∀ m ∈ created, s.oq.nextId ≤ m.id ∧ m.window = accessTag s a := fun m hm => hnew m (hcreated.subset hm)
  have hcreatedIds : IdsAscend (created.map Mop.id) t.oq.nextId := by
    rw [hnext]
    exact hnewIds.sublist (hcreated.sublist.map _)
  have htags : tagsOf t = tagsOf s ++ created.map Mop.window := by
    rw [tagsOf, hmops, hqueue, List.map_append, map_window_of_keys hold]
    rfl
  have hcreatedTags : created.map Mop.window = List.replicate (createdCount s a) (accessTag s a) := by
    rw [List.eq_replicate_iff, List.length_map]
    refine ⟨hlength, fun t ht => ?_⟩
    obtain ⟨m, hm, rfl⟩ := List.mem_map.1 ht
    exact (hmem m hm).2
  rw [queueSound_iff, hmops, hqueue, List.map_append, map_id_of_keys hold, htags, hcreatedTags]
  refine ⟨hids.append hcreatedIds ?_ (by omega), fun i => ?_⟩
  · intro id hid
    obtain ⟨m, hm, rfl⟩ := List.mem_map.1 hid
    exact (hmem m hm).1
  · obtain ⟨hholds, hgen, hcount⟩ := hwindows i
    refine (hflights i).append ?_ hholds hgen ?_
    · rw [hcount, List.countP_replicate]
    · rintro t ht rfl
      exact hcurrent t (List.eq_of_mem_replicate ht).symm

theorem queueSound_admitMops {a : Access} {s : State} (hd : disposition s.wt a = .passThrough) (hs : QueueSound s) :
    QueueSound (admitMops a s) := by
  have htag : accessTag s a = none := by simp [accessTag, hd]
  refine queueSound_admit (s := s) (a := a) rfl rfl (fun i => ⟨rfl, rfl, ?_⟩) (fun w hw => ?_) hs
  · rw [htag]; rfl
  · simp [htag] at hw

theorem queueSound_serve {i : Fin 16} {a : Access} {s : State} (hd : disposition s.wt a = .transformed i)
    (hlive : (s.window i).state = .live) (hs : QueueSound s) :
    QueueSound (claimAccepted i (createdCount s a) (admitMops a s)) := by
  have htag : accessTag s a = some { index := i, generation := (s.window i).generation } := by
    simp [accessTag, hd, State.window]
  refine queueSound_admit (s := s) (a := a) rfl rfl ?_ (fun w hw => ?_) hs
  · rw [htag]
    refine forall_window_withWindow (s := admitMops a s)
      (P := fun j w => w.holds = (s.window j).holds ∧ w.generation = (s.window j).generation
        ∧ w.inFlight = (s.window j).inFlight + if tagNames j _ then createdCount s a else 0)
      (fun j hj => ⟨rfl, rfl, ?_⟩) ⟨rfl, rfl, ?_⟩
    · simp only [tagNames_some, Ne.symm hj, decide_false]
      rfl
    · simp only [tagNames_some, decide_true, if_true]
      rfl
  · rw [htag] at hw
    cases hw
    exact ⟨holds_of_matching (matching_of_live hlive), rfl⟩

/-! ### Every move keeps the queue sound -/

theorem queueSound_of_sameQueues {s t : State} (h : SameQueues s t) (hs : QueueSound s) : QueueSound t :=
  queueSound_of_sameWindows (by rw [h.oq]) (by rw [h.oq]) h.window hs

theorem QueueMove.queueSound {s t : State} (h : QueueMove s t) (hs : QueueSound s) : QueueSound t := by
  cases h with
  | elsewhere h => exact queueSound_of_sameQueues h hs
  | issue m t p _ _ =>
    exact queueSound_of_sameWindows (s := s)
      (updateMop_keys (f := fun x => { x with state := issuedState t p }) (fun _ => rfl) _ _) rfl (fun _ => rfl) hs
  | combine m data _ =>
    exact queueSound_of_sameWindows (updateMop_keys (combinedMop_key data) _ _) rfl (fun _ => rfl) hs
  | remove m hm => exact queueSound_removeMop hm hs
  | linked m f => exact queueSound_of_sameWindows (by simp) (by simp) (by simp [State.window]) hs
  | answered => exact queueSound_of_sameWindows (by simp) (by simp) (by simp [State.window]) hs
  | record r => exact hs
  | halt i hlive => exact queueSound_haltWindow hlive hs
  | pass a hd _ => exact queueSound_admitMops hd hs
  | serve i a hd hlive _ => exact queueSound_serve hd hlive hs
  | turnAway i =>
    exact queueSound_of_windows (s := s) rfl rfl (fun h => forall_window_withWindow (P := Flights (tagsOf s))
      (fun j _ => h j) ((h i).congr rfl fun hold => ⟨hold, rfl⟩)) hs
  | push a n error _ => exact queueSound_of_sameWindows (by simp) (by simp) (by simp [State.window]) hs

/-- CLEAR_ALL keeps the flights of a window: one with MOPs in flight stays or becomes CLOSING, and one without may
become EMPTY (R34). -/
theorem Flights.cleared {tags : List (Option WindowTag)} {i : Fin 16} {w : Window} (h : Flights tags i w) :
    Flights tags i w.cleared := by
  have hopen : w.matching = true → Flights tags i w.cleared := by
    intro hm
    rw [cleared_of_matching hm]
    split
    · rename_i hcount; exact h.emptied hcount rfl
    · exact h.congr rfl fun _ => ⟨rfl, rfl⟩
  have hfree : w.holds = false → Flights tags i (Window.emptied w.generation) :=
    fun hfree => .of_zero (h.count_of_free hfree) rfl
  cases hstate : w.state with
  | empty => simpa only [Window.cleared, hstate] using hfree (not_holds_of_empty hstate)
  | staged => simpa only [Window.cleared, hstate] using hfree (not_holds_of_staged hstate)
  | live => exact hopen (matching_of_live hstate)
  | halted => exact hopen (matching_of_halted hstate)
  | closing => simpa only [Window.cleared, hstate] using h

/-- Management commands keep the flights of every window: one that holds its surface and has MOPs in flight keeps both
its hold and its generation. -/
theorem CommandMove.flights {tags : List (Option WindowTag)} {s t : State} (h : CommandMove s t)
    (hs : ∀ i, Flights tags i (s.window i)) : ∀ i, Flights tags i (t.window i) := by
  have hupdate : ∀ (i : Fin 16) (w : Window), Flights tags i w → ∀ j, Flights tags j ((s.withWindow i w).window j) :=
    fun i w hw => forall_window_withWindow (P := Flights tags) (fun j _ => hs j) hw
  have hfresh : ∀ (i : Fin 16) (w : Window), (s.window i).holds = false → w.inFlight = (s.window i).inFlight →
      Flights tags i w := by
    intro i w hfree hcount
    have hnone := (hs i).count_of_free hfree
    exact .of_zero hnone (hcount.trans ((hs i).1.trans hnone))
  cases h with
  | elsewhere h _ => exact fun i => by rw [h.window]; exact hs i
  | define | drop => exact hs
  | stage i kind sf p _ _ hfree => exact hupdate i _ (hfresh i _ hfree rfl)
  | opening i d _ hstaged _ _ _ => exact hupdate i _ (hfresh i _ (not_holds_of_staged hstaged) rfl)
  | close i _ hm =>
    obtain ⟨hcount, h⟩ | ⟨-, h⟩ := closeOpen_cases i s
    · rw [h]
      exact forall_window_toStaged (P := Flights tags) (fun j _ => hs j) ((hs i).emptied hcount hcount)
    · rw [h]; exact hupdate i _ ((hs i).congr rfl fun _ => ⟨rfl, rfl⟩)
  | resume i _ hhalted => exact hupdate i _ ((hs i).congr rfl fun _ => ⟨rfl, rfl⟩)
  | clear _ =>
    intro i
    rw [endClearAll_window, startClearAll_window]
    exact (hs i).cleared

theorem PortMove.queueSound {s t : State} (h : PortMove s t) (hs : QueueSound s) : QueueSound t := by
  cases h with
  | tables hmove hstay =>
    obtain ⟨hoq, -, -⟩ := hstay
    exact queueSound_of_windows (by rw [hoq]) (by rw [hoq]) hmove.flights hs
  | configure | acknowledge | recover | pop | fenceAtOnce | fencePlaced => exact hs

/-- Settles O55, move by move: a removal takes one MOP and one count, a halt the MOPs that it cancels, an access adds
the MOPs that it creates, and no command lets go of a window with MOPs in flight. -/
theorem stepKeepsInFlightCountsExact : Obligations.StepKeepsInFlightCountsExact :=
  fun _ _ hs h =>
    step_keeps_queues (P := QueueSound) queueSound_of_sameQueues (fun h => h.queueSound) (fun h => h.queueSound)
      queueSound_reset h hs

end Sys2Proof.Proofs
end

section
/-! PROOF. The window commands SET_WINDOW, OPEN_WINDOW, CLOSE_WINDOW, RESUME_WINDOW and READ_WINDOW, and CLEAR_ALL:
their checks in order, their effects and their answers. -/

namespace Sys2Proof.Proofs

open Sys2Proof.Machine Sys2Proof.Safety Sys2Proof.Claims

/-! ### The commands outside reset -/

theorem exec_setWindow {s : State} (h : s.resetN = true) (p : WindowParams) :
    exec (.setWindow p) s = .next (answer 0x30#8 (windowParamBytes p) (setWindowReply p s)) :=
  congrArg Host.Outcome.next (unlessReset_of_high h _)

theorem exec_openWindow {s : State} (h : s.resetN = true) (index : Byte) :
    exec (.openWindow index) s = .next (answer 0x31#8 [index] (openWindowReply index s)) :=
  congrArg Host.Outcome.next (unlessReset_of_high h _)

theorem exec_closeWindow {s : State} (h : s.resetN = true) (index : Byte) :
    exec (.closeWindow index) s = .next (answer 0x32#8 [index] (closeWindowReply index s)) :=
  congrArg Host.Outcome.next (unlessReset_of_high h _)

theorem exec_resumeWindow {s : State} (h : s.resetN = true) (index : Byte) :
    exec (.resumeWindow index) s = .next (answer 0x33#8 [index] (resumeWindowReply index s)) :=
  congrArg Host.Outcome.next (unlessReset_of_high h _)

theorem exec_readWindow {s : State} (h : s.resetN = true) (index : Byte) :
    exec (.readWindow index) s = .next (answer 0x34#8 [index] (readWindowReply index s)) :=
  congrArg Host.Outcome.next (unlessReset_of_high h _)

theorem exec_clearAll {s : State} (h : s.resetN = true) :
    exec .clearAll s = .next (answer 0x70#8 [] (clearAllReply s)) :=
  congrArg Host.Outcome.next (unlessReset_of_high h _)

/-- A command carried out answers OK with its result (R149, R154). -/
theorem answer_done (code : Byte) (params : List Byte) (t : State) (result : List Byte) :
    answer code params (done t result) = answered t code params (0x00#8 :: result) := rfl

/-! ### Indices, kinds and fields -/

theorem windowIndex_eq_some_iff {b : Byte} {i : Fin 16} : windowIndex b = some i ↔ i.val = b.toNat := by
  unfold windowIndex
  split
  · simp [Fin.ext_iff, eq_comm]
  · have := i.isLt
    simp only [reduceCtorEq, false_iff]
    omega

theorem windowIndex_eq_none_iff {b : Byte} : windowIndex b = none ↔ 15 < b.toNat := by
  unfold windowIndex
  split
  · simp only [reduceCtorEq, false_iff]
    omega
  · simp only [true_iff]
    omega

theorem stagedSurface_eq_some_iff {b : Byte} {k : Fin 8} : stagedSurface b = some k ↔ k.val = b.toNat :=
  surfaceIndex_eq_some_iff

/-- A kind byte names the kind of that code (R158). -/
theorem kindOfCode_eq_some_iff {b : Byte} {k : Kind} : kindOfCode b = some k ↔ k.code = b := by
  constructor
  · intro h
    unfold kindOfCode at h
    split_ifs at h <;> cases h <;> simp_all [Kind.code]
  · rintro rfl
    cases k <;> rfl

theorem kindCode_le (k : Kind) : k.code.toNat ≤ 3 := by cases k <;> decide

theorem exists_kind_of_le {b : Byte} (h : b.toNat ≤ 3) : ∃ k : Kind, k.code = b := by
  have hcases : b.toNat = 0 ∨ b.toNat = 1 ∨ b.toNat = 2 ∨ b.toNat = 3 := by omega
  obtain h | h | h | h := hcases
  · exact ⟨.direct, BitVec.eq_of_toNat_eq h.symm⟩
  · exact ⟨.expand, BitVec.eq_of_toNat_eq h.symm⟩
  · exact ⟨.coverage, BitVec.eq_of_toNat_eq h.symm⟩
  · exact ⟨.matchKey, BitVec.eq_of_toNat_eq h.symm⟩

/-- Bits 7 to 3 of the options are clear exactly when the options are below 8 (R22). -/
theorem options_clear_iff : ∀ b : Byte, b &&& 0xF8#8 = 0#8 ↔ b.toNat < 8 := by decide

theorem clipValid_iff (p : WindowParams) :
    clipValid p = true
      ↔ p.clipLeft.toNat ≤ p.clipRight.toNat ∧ p.clipRight.toNat ≤ 4095
        ∧ p.clipTop.toNat ≤ p.clipBottom.toNat ∧ p.clipBottom.toNat ≤ 4095 := by
  simp only [clipValid, Bool.and_eq_true, decide_eq_true_eq]
  omega

/-- For an index, a kind and a surface that exist, the parameters are valid when their other fields are (R22). -/
theorem windowFieldsValid_iff {p : WindowParams} {i : Fin 16} {k : Kind} {sf : Fin 8} (hi : i.val = p.index.toNat)
    (hk : k.code = p.kind) (hsf : sf.val = p.surface.toNat) :
    WindowFieldsValid p ↔ windowFieldsValid p = true := by
  have hindex : p.index.toNat ≤ 15 := by have := i.isLt; omega
  have hkind : p.kind.toNat ≤ 3 := hk ▸ kindCode_le k
  have hsurface : p.surface.toNat ≤ 7 := by have := sf.isLt; omega
  have hclip : (!p.options.getLsbD 0 || clipValid p) = true ↔ (p.options.getLsbD 0 = true → clipValid p = true) := by
    cases p.options.getLsbD 0 <;> simp
  simp only [windowFieldsValid, Bool.and_eq_true, hclip, decide_eq_true_eq, options_clear_iff, clipValid_iff,
    WindowFieldsValid, hindex, hkind, hsurface, Nat.dvd_iff_mod_eq_zero, true_and, and_assoc]

theorem checkWindow_eq_some {p : WindowParams} {i : Fin 16} {k : Kind} {sf : Fin 8} (h : WindowFieldsValid p)
    (hi : i.val = p.index.toNat) (hk : k.code = p.kind) (hsf : sf.val = p.surface.toNat) :
    checkWindow p = some (i, stagedOf k sf p) := by
  simp [checkWindow, windowIndex_eq_some_iff.2 hi, kindOfCode_eq_some_iff.2 hk, stagedSurface_eq_some_iff.2 hsf,
    (windowFieldsValid_iff hi hk hsf).1 h]

theorem checkWindow_eq_none {p : WindowParams} (h : ¬ WindowFieldsValid p) : checkWindow p = none := by
  unfold checkWindow
  split
  · rename_i i k sf hi hk hsf
    have hiff := windowFieldsValid_iff (windowIndex_eq_some_iff.1 hi) (kindOfCode_eq_some_iff.1 hk)
      (stagedSurface_eq_some_iff.1 hsf)
    rw [if_neg fun hv => h (hiff.2 hv)]
  · rfl

theorem open_iff_matching (w : Window) : Open w ↔ w.matching = true := by simp [Open, Window.matching]

theorem holds_iff (w : Window) :
    w.holds = true ↔ w.state = .live ∨ w.state = .halted ∨ w.state = .closing := by
  simp [Window.holds, or_assoc]

/-! ### SET_WINDOW -/

theorem setWindowReply_busy {s : State} (p : WindowParams) (h : s.wt.clearAllPending = true) :
    setWindowReply p s = refuse s .busy := by
  simp [setWindowReply, h]

theorem setWindowReply_badArg {s : State} {p : WindowParams} (h : s.wt.clearAllPending = false)
    (hp : ¬ WindowFieldsValid p) : setWindowReply p s = refuse s .badArg := by
  simp [setWindowReply, h, checkWindow_eq_none hp]

/-- SET_WINDOW with valid parameters: BAD_STATE, or the window is STAGED with the carried fields (R21). -/
theorem setWindowReply_valid {s : State} {p : WindowParams} {i : Fin 16} {k : Kind} {sf : Fin 8}
    (h : s.wt.clearAllPending = false) (hp : WindowFieldsValid p) (hi : i.val = p.index.toNat)
    (hk : k.code = p.kind) (hsf : sf.val = p.surface.toNat) :
    setWindowReply p s
      = if (s.window i).holds then refuse s .badState
        else done (s.withWindow i { s.window i with state := .staged, staged := stagedOf k sf p }) [] := by
  simp [setWindowReply, h, checkWindow_eq_some hp hi hk hsf]

/-- Settles O12, by the checks of SET_WINDOW in order. -/
theorem setWindowStagesOrRefuses : Obligations.SetWindowStagesOrRefuses := by
  intro p s hreset
  rw [exec_setWindow hreset]
  refine ⟨fun hbusy => ?_, fun hidle hbad => ?_, fun hidle hvalid i hi => ⟨fun hheld => ?_,
    fun hfree k sf hk hsf => ?_⟩⟩
  · rw [setWindowReply_busy p hbusy]; rfl
  · rw [setWindowReply_badArg hidle hbad]; rfl
  · have ⟨_, hkind, _, hsurface, _⟩ := hvalid
    obtain ⟨k, hk⟩ := exists_kind_of_le hkind
    rw [setWindowReply_valid (sf := ⟨p.surface.toNat, Nat.lt_succ_of_le hsurface⟩) hidle hvalid hi hk rfl,
      if_pos ((holds_iff _).2 hheld)]
    rfl
  · have hnot : ¬ (s.window i).holds = true := by
      rw [holds_iff]
      obtain h | h := hfree <;> simp [h]
    rw [setWindowReply_valid hidle hvalid hi hk hsf, if_neg hnot]
    rfl

/-! ### OPEN_WINDOW -/

/-- The row bytes of Table 2-2 are those of the model (R17). -/
theorem rowBytesOfTable_eq (k : Kind) (width : Nat) (f : PixelFormat) :
    rowBytesOfTable k width f.bpp = rowBytesOf k width f := by
  cases k <;> simp only [rowBytesOfTable, rowBytesOf, wordBytes, Nat.ceilDiv_eq_add_pred_div, Nat.add_sub_assoc,
    Nat.reduceLeDiff, Nat.reduceSub]

theorem openWindowReply_busy {s : State} (index : Byte) (h : s.wt.clearAllPending = true) :
    openWindowReply index s = refuse s .busy := by
  simp [openWindowReply, h]

theorem openWindowReply_badArg {s : State} {index : Byte} (h : s.wt.clearAllPending = false)
    (hindex : 15 < index.toNat) : openWindowReply index s = refuse s .badArg := by
  simp [openWindowReply, h, windowIndex_eq_none_iff.2 hindex]

theorem openWindowReply_eq {s : State} {index : Byte} {i : Fin 16} (h : s.wt.clearAllPending = false)
    (hi : i.val = index.toNat) : openWindowReply index s = openStaged i s := by
  simp [openWindowReply, h, windowIndex_eq_some_iff.2 hi]

theorem openStaged_badState {s : State} {i : Fin 16} (h : (s.window i).state ≠ .staged) :
    openStaged i s = refuse s .badState := by
  simp [openStaged, h]

theorem openStaged_noSurface {s : State} {i : Fin 16} (h : (s.window i).state = .staged)
    (hd : s.surface (s.window i).staged.surface = none) : openStaged i s = refuse s .noSurface := by
  simp [openStaged, h, hd]

/-- OPEN_WINDOW on a DEFINED surface: RANGE, OVERLAP, or the window is LIVE on its surface (R23 to R26). -/
theorem openStaged_defined {s : State} {i : Fin 16} {d : Surface} {g : Derived} (h : (s.window i).state = .staged)
    (hd : s.surface (s.window i).staged.surface = some d) (hg : deriveFields (s.window i).staged d.format = g) :
    openStaged i s
      = if rangeFits g = true then
          if overlapsOpenWindow s.wt i (s.window i).staged.hostBase.toNat g.hostLimit then refuse s .overlap
          else
            done
              ((s.withWindow i ((s.window i).opened g)).withSurface (s.window i).staged.surface
                (some { d with refCount := d.refCount + 1 })) []
        else refuse s .range := by
  subst hg
  cases hr : rangeFits (deriveFields (s.window i).staged d.format) <;> simp [openStaged, h, hd, hr, openClaim]

/-- Settles O13, by the checks of R23 in order. -/
theorem openWindowOpensOrRefuses : Obligations.OpenWindowOpensOrRefuses := by
  intro index s hreset
  rw [exec_openWindow hreset]
  refine ⟨fun hbusy => ?_, fun hidle hindex => ?_, fun hidle i hi => ?_⟩
  · rw [openWindowReply_busy index hbusy]; rfl
  · rw [openWindowReply_badArg hidle hindex]; rfl
  rw [openWindowReply_eq hidle hi]
  refine ⟨fun hstate => ?_, fun hstaged => ⟨fun hd => ?_, fun d base row span limit hd hbase hrow hspan hlimit => ?_⟩⟩
  · rw [openStaged_badState hstate]; rfl
  · rw [openStaged_noSurface hstaged hd]; rfl
  have hg : deriveFields (s.window i).staged d.format = { rowBytes := row, span := span, hostLimit := limit } := by
    rw [rowBytesOfTable_eq] at hrow
    subst hlimit hspan hrow hbase
    rfl
  have hfits : rangeFits { rowBytes := row, span := span, hostLimit := limit } = true
      ↔ span ≤ 16777216 ∧ limit ≤ 0xFFFFFFFF := by
    simp only [rangeFits, Bool.and_eq_true, decide_eq_true_eq]
    rfl
  have hmeets : overlapsOpenWindow s.wt i base limit = true
      ↔ ∃ j, j ≠ i ∧ Open (s.window j) ∧ base ≤ (s.window j).derived.hostLimit
          ∧ (s.window j).staged.hostBase.toNat ≤ limit := by
    simp only [overlapsOpenWindow_iff, open_iff_matching, rangesOverlap, Bool.and_eq_true, decide_eq_true_eq]
  rw [openStaged_defined hstaged hd hg]
  simp only [← hbase]
  refine ⟨fun hrange => ?_, fun hspan' hlimit' => ⟨fun hoverlap => ?_, fun hapart => ?_⟩⟩
  · rw [if_neg (by rw [hfits]; omega)]; rfl
  · rw [if_pos (hfits.2 ⟨hspan', hlimit'⟩), if_pos (hmeets.2 hoverlap)]; rfl
  · have hclear : ¬ overlapsOpenWindow s.wt i base limit = true := by
      rw [hmeets]
      rintro ⟨j, hj, hopen, hmeet⟩
      exact hapart j hj hopen hmeet
    rw [if_pos (hfits.2 ⟨hspan', hlimit'⟩), if_neg hclear]
    rfl

/-! ### CLOSE_WINDOW and RESUME_WINDOW -/

theorem closeWindowReply_busy {s : State} (index : Byte) (h : s.wt.clearAllPending = true) :
    closeWindowReply index s = refuse s .busy := by
  simp [closeWindowReply, h]

theorem closeWindowReply_badArg {s : State} {index : Byte} (h : s.wt.clearAllPending = false)
    (hindex : 15 < index.toNat) : closeWindowReply index s = refuse s .badArg := by
  simp [closeWindowReply, h, windowIndex_eq_none_iff.2 hindex]

theorem closeWindowReply_eq {s : State} {index : Byte} {i : Fin 16} (h : s.wt.clearAllPending = false)
    (hi : i.val = index.toNat) :
    closeWindowReply index s = if (s.window i).matching then done (closeOpen i s) [] else refuse s .badState := by
  simp [closeWindowReply, h, windowIndex_eq_some_iff.2 hi]

/-- Settles O14, by the checks of CLOSE_WINDOW in order. -/
theorem closeWindowClosesOrRefuses : Obligations.CloseWindowClosesOrRefuses := by
  intro index s hreset
  rw [exec_closeWindow hreset]
  refine ⟨fun hbusy => ?_, fun hidle hindex => ?_, fun hidle i hi => ?_⟩
  · rw [closeWindowReply_busy index hbusy]; rfl
  · rw [closeWindowReply_badArg hidle hindex]; rfl
  rw [closeWindowReply_eq hidle hi]
  simp only [open_iff_matching]
  refine ⟨fun hshut => ?_, fun hopen hcount => ?_, fun hopen hcount => ?_⟩
  · rw [if_neg hshut]; rfl
  · rw [if_pos hopen, closeOpen, if_neg hcount]; rfl
  · rw [if_pos hopen, closeOpen, if_pos hcount]; rfl

theorem resumeWindowReply_busy {s : State} (index : Byte) (h : s.wt.clearAllPending = true) :
    resumeWindowReply index s = refuse s .busy := by
  simp [resumeWindowReply, h]

theorem resumeWindowReply_badArg {s : State} {index : Byte} (h : s.wt.clearAllPending = false)
    (hindex : 15 < index.toNat) : resumeWindowReply index s = refuse s .badArg := by
  simp [resumeWindowReply, h, windowIndex_eq_none_iff.2 hindex]

theorem resumeWindowReply_eq {s : State} {index : Byte} {i : Fin 16} (h : s.wt.clearAllPending = false)
    (hi : i.val = index.toNat) :
    resumeWindowReply index s
      = if (s.window i).state = .halted then done (s.withWindow i { s.window i with state := .live }) []
        else refuse s .badState := by
  simp only [resumeWindowReply, h, windowIndex_eq_some_iff.2 hi]
  rfl

/-- Settles O15, by the checks of RESUME_WINDOW in order. -/
theorem resumeWindowRevivesOrRefuses : Obligations.ResumeWindowRevivesOrRefuses := by
  intro index s hreset
  rw [exec_resumeWindow hreset]
  refine ⟨fun hbusy => ?_, fun hidle hindex => ?_, fun hidle i hi => ?_⟩
  · rw [resumeWindowReply_busy index hbusy]; rfl
  · rw [resumeWindowReply_badArg hidle hindex]; rfl
  rw [resumeWindowReply_eq hidle hi]
  refine ⟨fun hstate => ?_, fun hhalted => ?_⟩
  · rw [if_neg hstate]; rfl
  · rw [if_pos hhalted]; rfl

/-! ### READ_WINDOW -/

theorem readWindowReply_badArg {index : Byte} (s : State) (hindex : 15 < index.toNat) :
    readWindowReply index s = refuse s .badArg := by
  simp [readWindowReply, windowIndex_eq_none_iff.2 hindex]

theorem readWindowReply_eq {index : Byte} {i : Fin 16} (s : State) (hi : i.val = index.toNat) :
    readWindowReply index s = done s (windowBytes (s.window i)) := by
  simp [readWindowReply, windowIndex_eq_some_iff.2 hi]

/-- A 16-bit field of a frame is the one whose two bytes stand at its place, most significant first (R147). -/
theorem field16_of_drop {l rest : List Byte} {k : Nat} {x : BitVec 16} (h : l.drop k = bytes16 x ++ rest) :
    field16 l k = x := by
  have hbyte : ∀ j, byteAt l (k + j) = byteAt (bytes16 x ++ rest) j := fun j => by
    simp [byteAt, ← h, List.getD_eq_getElem?_getD]
  calc field16 l k = byteAt l (k + 0) ++ byteAt l (k + 1) := rfl
    _ = x.extractLsb' 8 8 ++ x.extractLsb' 0 8 := by rw [hbyte, hbyte]; rfl
    _ = x := by
      rw [BitVec.extractLsb'_append_extractLsb'_eq_extractLsb' (by norm_num)]
      exact BitVec.extractLsb'_eq_self

/-- A 32-bit field of a frame is the one whose four bytes stand at its place, most significant first (R147). -/
theorem field32_of_drop {l rest : List Byte} {k : Nat} {x : Word} (h : l.drop k = bytes32 x ++ rest) :
    field32 l k = x := by
  have hbyte : ∀ j, byteAt l (k + j) = byteAt (bytes32 x ++ rest) j := fun j => by
    simp [byteAt, ← h, List.getD_eq_getElem?_getD]
  calc field32 l k = byteAt l (k + 0) ++ byteAt l (k + 1) ++ byteAt l (k + 2) ++ byteAt l (k + 3) := rfl
    _ = x.extractLsb' 24 8 ++ x.extractLsb' 16 8 ++ x.extractLsb' 8 8 ++ x.extractLsb' 0 8 := by
      rw [hbyte, hbyte, hbyte, hbyte]; rfl
    _ = x := by
      rw [BitVec.extractLsb'_append_extractLsb'_eq_extractLsb' (by norm_num),
        BitVec.extractLsb'_append_extractLsb'_eq_extractLsb' (by norm_num),
        BitVec.extractLsb'_append_extractLsb'_eq_extractLsb' (by norm_num)]
      exact BitVec.extractLsb'_eq_self

/-- The clip coordinates, or 0 for each without a clip (R16, R159). -/
theorem clipBytes_eq (c : Option Clip) :
    clipBytes c = bytes16 ((c.map Clip.left).getD 0#16) ++ bytes16 ((c.map Clip.top).getD 0#16)
      ++ bytes16 ((c.map Clip.right).getD 0#16) ++ bytes16 ((c.map Clip.bottom).getD 0#16) := by
  cases c <;> rfl

/-- The options byte bit by bit: stop-on-fault, background present, clip present (R158). -/
theorem optionsByte_eq (w : Staged) :
    optionsByte w
      = (0#5 ++ BitVec.ofBool w.stopOnFault ++ BitVec.ofBool w.background.isSome ++ BitVec.ofBool w.clip.isSome
          : BitVec (5 + 1 + 1 + 1)) := by
  have hflags : ∀ a b c : Bool, flagBit a 0 ||| flagBit b 1 ||| flagBit c 2
      = (0#5 ++ BitVec.ofBool c ++ BitVec.ofBool b ++ BitVec.ofBool a : BitVec (5 + 1 + 1 + 1)) := by decide
  exact hflags _ _ _

/-- Settles O16: each field of Table 10-10 is read back from its place in the result bytes. -/
theorem readWindowReportsDescriptor : Obligations.ReadWindowReportsDescriptor := by
  intro index s hreset
  rw [exec_readWindow hreset]
  refine ⟨fun hindex => ?_, fun i hi => ⟨windowBytes (s.window i), ?_, ?_⟩⟩
  · rw [readWindowReply_badArg s hindex]; rfl
  · rw [readWindowReply_eq s hi]; rfl
  generalize s.window i = w
  simp only [windowBytes, stagedBytes, clipBytes_eq, List.append_assoc, List.cons_append, List.nil_append]
  refine ⟨?_, ?_, ?_, ?_⟩
  · simp [bytes16, bytes32]
  · cases w.state <;> rfl
  · rw [← optionsByte_eq]
    cases w.staged.kind <;> rfl
  · exact ⟨field32_of_drop rfl, field16_of_drop rfl, field16_of_drop rfl, field16_of_drop rfl, field16_of_drop rfl,
      field16_of_drop rfl, field16_of_drop rfl, field16_of_drop rfl, field16_of_drop rfl, field32_of_drop rfl,
      field32_of_drop rfl, field32_of_drop rfl, field32_of_drop rfl, field16_of_drop rfl, field32_of_drop rfl,
      field16_of_drop rfl, field16_of_drop rfl, field16_of_drop rfl, rfl⟩

/-! ### CLEAR_ALL -/

theorem clearAllReply_busy {s : State} (h : s.wt.clearAllPending = true) : clearAllReply s = refuse s .busy := by
  simp [clearAllReply, h]

theorem clearAllReply_idle {s : State} (h : s.wt.clearAllPending = false) :
    clearAllReply s = done (endClearAll (startClearAll s)) [] := by
  simp [clearAllReply, h]

/-- With no window left CLOSING a CLEAR_ALL ends at once (R35). -/
theorem endClearAll_over {s : State} (hp : s.wt.clearAllPending = true)
    (h : ∀ i, (s.window i).state ≠ .closing) :
    endClearAll s
      = { s with
          wt := { s.wt with clearAllPending := false }
          st := Vector.replicate 8 none
          fu := noticeClearDone s.fu } := by
  have hnone : ¬ anyClosing s.wt = true := by
    rw [anyClosing_iff]
    rintro ⟨i, hi⟩
    exact h i hi
  simp [endClearAll, hp, hnone]

/-- A CLOSING window keeps a clear-all pending (R35). -/
theorem endClearAll_waiting {s : State} (h : ∃ i, (s.window i).state = .closing) : endClearAll s = s := by
  simp [endClearAll, (anyClosing_iff s).2 h]

/-- Settles O20: the windows by the table of R34, and the end of the clear-all by whether one is CLOSING. -/
theorem clearAllTearsDownTables : Obligations.ClearAllTearsDownTables := by
  intro s hreset
  rw [exec_clearAll hreset]
  refine ⟨fun hbusy => ?_, fun hidle => ⟨endClearAll (startClearAll s), ?_, fun i => ?_, ?_, ?_, ?_, ?_, ?_, ?_, ?_⟩⟩
  · rw [clearAllReply_busy hbusy]; rfl
  · rw [clearAllReply_idle hidle, answer_done]
  · rw [endClearAll_window, startClearAll_window, Window.cleared]
    cases (s.window i).state <;> rfl
  · exact endClearAll_oq _
  · exact endClearAll_hsp _
  · exact endClearAll_msp _
  · exact endClearAll_resetN _
  · exact endClearAll_pending _
  · simp only [endClearAll_window]
    intro hnone
    rw [endClearAll_over rfl hnone]
    exact ⟨rfl, fun k => by simp [State.surface], rfl⟩
  · simp only [endClearAll_window]
    intro hclosing
    rw [endClearAll_waiting hclosing]
    exact ⟨rfl, rfl, startClearAll_surface s⟩

end Sys2Proof.Proofs
end

section
/-! PROOF. The halt of a window by a fault, and the removal of a MOP with the drain of its window: what each leaves in
every block, and the fences that complete with it. -/

namespace Sys2Proof.Proofs

open Sys2Proof.Machine Sys2Proof.Safety Sys2Proof.Claims

/-! ### Fences that complete -/

/-- What the completion of fences can do: nothing while every fence waits, else the fences that wait on no MOP complete
together (R106). -/
theorem completeFences_cases (s : State) :
    ((s.oq.fences.filter fun f => !fenceWaits s.oq.mops f) = [] ∧ completeFences s = s)
      ∨ ∃ f, (s.oq.fences.filter fun f => !fenceWaits s.oq.mops f).getLast? = some f
          ∧ completeFences s
            = { s with
                oq := { s.oq with fences := s.oq.fences.filter (fenceWaits s.oq.mops), lastFence := some f.number }
                fu := noticeFenceDone s.fu } := by
  unfold completeFences
  split
  · rename_i h; exact .inl ⟨List.getLast?_eq_none_iff.1 h, rfl⟩
  · rename_i f h; exact .inr ⟨f, h, rfl⟩

/-- The completion of fences changes nothing of the fault unit but FENCE_DONE (R106). -/
theorem completeFences_fu_eq (s : State) :
    (completeFences s).fu
      = { s.fu with
          notices := { s.fu.notices with fenceDone := (completeFences s).fu.notices.fenceDone } } := by
  obtain h | h := completeFences_fu s
  · rw [h]
  · rw [h]; rfl

/-- A fence behind one that waits waits too (R105, R106). -/
theorem fenceWaits_mono {mops : List Mop} {f g : Fence} (hle : f.mark ≤ g.mark) (h : fenceWaits mops f = true) :
    fenceWaits mops g = true := by
  obtain ⟨m, hm, hlt⟩ := List.any_eq_true.1 h
  exact List.any_eq_true.2 ⟨m, hm, by simp only [decide_eq_true_eq] at hlt ⊢; omega⟩

/-- Fences in placement order are those that complete, followed by those that wait (R106). -/
theorem fences_split (mops : List Mop) : ∀ {fences : List Fence}, fences.Pairwise (fun f g => f.mark ≤ g.mark) →
    fences = (fences.filter fun f => !fenceWaits mops f) ++ fences.filter (fenceWaits mops)
  | [], _ => rfl
  | f :: rest, h => by
    obtain ⟨hfirst, hrest⟩ := List.pairwise_cons.1 h
    cases hw : fenceWaits mops f with
    | false => simp [hw, ← fences_split mops hrest]
    | true =>
      have hall : ∀ g ∈ rest, fenceWaits mops g = true := fun g hg => fenceWaits_mono (hfirst g hg) hw
      have hnone : (rest.filter fun g => !fenceWaits mops g) = [] :=
        List.filter_eq_nil_iff.2 fun g hg => by simp [hall g hg]
      simp [hw, List.filter_eq_self.2 hall, hnone]

/-- Fences in placement order settle when they complete (R106). -/
theorem completeFences_settles {s : State} (h : s.oq.fences.Pairwise (fun f g => f.mark ≤ g.mark)) :
    FencesSettle s (completeFences s) := by
  refine ⟨s.oq.fences.filter fun f => !fenceWaits s.oq.mops f, s.oq.fences.filter (fenceWaits s.oq.mops),
    fences_split _ h, completeFences_fences s, ?_, ?_, completeFences_nextFence s, fun hnone => ?_, fun f hf => ?_⟩
  · rw [completeFences_mops]
    intro f hf
    simpa [fenceWaits] using (List.mem_filter.1 hf).2
  · rw [completeFences_mops]
    intro f hf
    simpa [fenceWaits] using (List.mem_filter.1 hf).2
  · obtain ⟨-, he⟩ | ⟨f, hf, -⟩ := completeFences_cases s
    · rw [he]; exact ⟨rfl, rfl⟩
    · simp [hnone] at hf
  · obtain ⟨hnone, -⟩ | ⟨f', hf', he⟩ := completeFences_cases s
    · simp [hnone] at hf
    · obtain rfl : f' = f := Option.some.inj (hf'.symm.trans hf)
      rw [he]
      exact ⟨rfl, rfl⟩

/-- The settlement of fences reads the fences and FENCE_DONE alone of the state before. -/
theorem fencesSettle_of_before {s s' t : State} (hfences : s'.oq.fences = s.oq.fences)
    (hnext : s'.oq.nextFence = s.oq.nextFence) (hlast : s'.oq.lastFence = s.oq.lastFence)
    (hdone : s'.fu.notices.fenceDone = s.fu.notices.fenceDone) (h : FencesSettle s' t) : FencesSettle s t := by
  unfold FencesSettle at h ⊢
  rwa [hfences, hnext, hlast, hdone] at h

/-! ### Records of faults -/

/-- A logged fault changes the log and the lost counter alone (R136). -/
theorem logFault_eq (r : FaultRecord) (fu : FaultUnit) :
    logFault r fu
      = { fu with
          log := if fu.log.length < 8 then fu.log ++ [r] else fu.log
          lost := if fu.log.length < 8 then fu.lost else min 255 (fu.lost + 1) } := by
  obtain ⟨hroom, h⟩ | ⟨hfull, h⟩ := logFault_cases r fu
  · have hroom' : fu.log.length < 8 := hroom
    rw [h, if_pos hroom', if_pos hroom']
  · have hfull' : ¬ fu.log.length < 8 := Nat.not_lt.2 hfull
    rw [h, if_neg hfull', if_neg hfull']
    rfl

/-- A fault that names a LIVE window with stop-on-fault on halts it (R138). -/
theorem haltedByFault_eq_some {s : State} {i : Fin 16} {g : Byte} (hlive : (s.window i).state = .live)
    (hstop : (s.window i).staged.stopOnFault = true) :
    haltedByFault s (some { index := i, generation := g }) = some i := by
  simp [haltedByFault, hlive, hstop]

/-- A fault that names no such window halts none (R138). -/
theorem haltedByFault_eq_none {s : State} {t : Option WindowTag}
    (h : ∀ w, t = some w → (s.window w.index).state ≠ .live ∨ (s.window w.index).staged.stopOnFault = false) :
    haltedByFault s t = none := by
  cases hh : haltedByFault s t with
  | none => rfl
  | some i =>
    obtain ⟨⟨g, ht⟩, hlive, hstop⟩ := haltedByFault_some hh
    obtain hstate | hoff := h _ ht
    · exact absurd hlive hstate
    · simp [hstop] at hoff

/-! ### Halt -/

theorem cancelledBy_eq (m : Mop) (i : Fin 16) :
    m.cancelledBy i = (decide (m.window.map WindowTag.index = some i) && decide (m.state = .pending)) := by
  rw [Mop.cancelledBy, ofWindow_eq_tagNames]
  rfl

theorem readsFor_eq (mops : List Mop) (id : Nat) : readsFor mops id = mops.countP fun m => m.link = some id := by
  refine List.countP_congr fun m _ => ?_
  unfold Mop.link
  cases m.content <;> simp

theorem failEntries_eq (cancelled : List Mop) (entries : List Entry) :
    failEntries cancelled entries
      = entries.map fun e =>
          if readsFor cancelled e.id = 0 then e
          else { e with word := 0#32, error := true, outstanding := e.outstanding - readsFor cancelled e.id } := by
  simp only [failEntries, readsFor_eq, Entry.fail]

/-- A fault that halts a window changes nothing of the fault unit but the log or the lost counter, WINDOW_HALTED with
its set, and FENCE_DONE (R31, R106, R136). -/
theorem haltWindow_logged_fu (i : Fin 16) (r : FaultRecord) (s : State) :
    ∃ done,
      (haltWindow i (s.withFu (logFault r s.fu))).fu
        = { s.fu with
            log := if s.fu.log.length < 8 then s.fu.log ++ [r] else s.fu.log
            lost := if s.fu.log.length < 8 then s.fu.lost else min 255 (s.fu.lost + 1)
            notices := { s.fu.notices with windowHalted := true, fenceDone := done }
            haltedSet := s.fu.haltedSet ||| windowBit i } := by
  have hfu := completeFences_fu_eq (haltedBeforeFences i (s.withFu (logFault r s.fu)))
  generalize (completeFences _).fu.notices.fenceDone = done at hfu
  refine ⟨done, hfu.trans ?_⟩
  simp only [haltedBeforeFences, withFu_fu, noticeWindowHalted, logFault_eq]

theorem haltWindow_hsp (i : Fin 16) (s : State) :
    (haltWindow i s).hsp
      = { s.hsp with entries := failEntries (s.oq.mops.filter fun m => m.cancelledBy i) s.hsp.entries } :=
  completeFences_hsp (haltedBeforeFences i s)

@[simp] theorem haltWindow_nextFence (i : Fin 16) (s : State) : (haltWindow i s).oq.nextFence = s.oq.nextFence :=
  completeFences_nextFence (haltedBeforeFences i s)

/-- The halt by a fault settles the fences (R106, R139). -/
theorem haltWindow_settles (i : Fin 16) (r : FaultRecord) {s : State}
    (h : s.oq.fences.Pairwise (fun f g => f.mark ≤ g.mark)) :
    FencesSettle s (haltWindow i (s.withFu (logFault r s.fu))) := by
  have hsettled := completeFences_settles (s := haltedBeforeFences i (s.withFu (logFault r s.fu))) h
  refine fencesSettle_of_before ?_ ?_ ?_ ?_ hsettled
  · rfl
  · rfl
  · rfl
  · simp [haltedBeforeFences, noticeWindowHalted, logFault_eq]

/-- Settles O42: the halt block by block, and the record alone where no window halts. -/
theorem faultHaltsStopOnFaultWindow : Obligations.FaultHaltsStopOnFaultWindow := by
  intro r s
  refine ⟨fun i g hwindow hlive hstop cancelled hcancelled => ?_, fun hother => ?_⟩
  · have hreport : reportFault r s = haltWindow i (s.withFu (logFault { r with halted := true } s.fu)) := by
      simp only [reportFault, hwindow, haltedByFault_eq_some hlive hstop]
    simp only [← cancelledBy_eq] at hcancelled ⊢
    obtain ⟨done, hfu⟩ := haltWindow_logged_fu i { r with halted := true } s
    have hhsp := haltWindow_hsp i (s.withFu (logFault { r with halted := true } s.fu))
    simp only [failEntries_eq, withFu_oq, ← hcancelled] at hhsp
    rw [hreport]
    refine ⟨fun j => ?_, haltWindow_mops i _, hhsp, congrArg (·.notices.windowHalted) hfu,
      congrArg (·.haltedSet) hfu, congrArg (·.log) hfu, congrArg (·.lost) hfu, haltWindow_st i _,
      haltWindow_msp i _, haltWindow_clearAllPending i _, haltWindow_settles i _, haltWindow_nextFence i _,
      haltWindow_nextId i _, congrArg (·.notices.windowClosed) hfu, congrArg (·.notices.clearDone) hfu,
      congrArg (·.closedSet) hfu, congrArg (·.enables) hfu, haltWindow_mgp i _, haltWindow_csN i _,
      haltWindow_resetN i _, haltWindow_pending i _⟩
    rw [haltWindow_window, withFu_oq, ← hcancelled]
    rfl
  · simp only [reportFault, haltedByFault_eq_none hother]
    rfl

/-! ### Removal -/

/-- Notices of a removal change neither the log nor what a halt has set (R141). -/
theorem NoticeRun.faults_kept {fu fu' : FaultUnit} (h : NoticeRun fu fu') :
    fu'.log = fu.log ∧ fu'.lost = fu.lost ∧ fu'.haltedSet = fu.haltedSet ∧ fu'.enables = fu.enables
      ∧ fu'.notices.windowHalted = fu.notices.windowHalted := by
  refine h.keeps (P := fun x => x.log = fu.log ∧ x.lost = fu.lost ∧ x.haltedSet = fu.haltedSet
    ∧ x.enables = fu.enables ∧ x.notices.windowHalted = fu.notices.windowHalted) (fun move hs => ?_)
    ⟨rfl, rfl, rfl, rfl, rfl⟩
  cases move with
  | fenceDone | windowClosed | clearDone => exact hs

/-- The state from which the window of a removed MOP drains: the MOP has left the queue and the count has fallen. -/
def takenOut (m : Mop) (i : Fin 16) (s : State) : State :=
  (s.withMops (dropMop m.id s.oq.mops)).withWindow i (departed (s.window i))

/-- The removal of a window's MOP: its window stays, or it was the last one of a CLOSING window, which passes to STAGED,
or to EMPTY under a pending clear-all (R29, R102). -/
theorem removeMop_cases {m : Mop} {i : Fin 16} {g : Byte} (hw : m.window = some { index := i, generation := g })
    (s : State) :
    (¬ ((s.window i).state = .closing ∧ (s.window i).inFlight ≤ 1)
        ∧ removeMop m s = completeFences (takenOut m i s))
      ∨ ((s.window i).state = .closing ∧ (s.window i).inFlight ≤ 1
          ∧ ((s.wt.clearAllPending = false ∧ removeMop m s = completeFences (toStaged i (takenOut m i s)))
            ∨ (s.wt.clearAllPending = true
                ∧ removeMop m s = completeFences (endClearAll (toEmpty i (takenOut m i s)))))) := by
  have hremove : removeMop m s = completeFences (leaveWindow i (s.withMops (dropMop m.id s.oq.mops))) := by
    simp [removeMop, hw, leaveTag]
  rw [hremove]
  obtain ⟨hstays, h⟩ | ⟨hclosing, hlast, ⟨hp, h⟩ | ⟨hp, h⟩⟩ := leaveWindow_cases i (s.withMops (dropMop m.id s.oq.mops))
  · exact .inl ⟨hstays, by rw [h]; rfl⟩
  · exact .inr ⟨hclosing, hlast, .inl ⟨hp, by rw [h]; rfl⟩⟩
  · exact .inr ⟨hclosing, hlast, .inr ⟨hp, by rw [h]; rfl⟩⟩

@[simp] theorem completeFences_window (s : State) (i : Fin 16) : (completeFences s).window i = s.window i := by
  simp [State.window]

@[simp] theorem completeFences_surface (s : State) (k : Fin 8) : (completeFences s).surface k = s.surface k := by
  simp [State.surface]

theorem completeFences_closedSet (s : State) : (completeFences s).fu.closedSet = s.fu.closedSet :=
  congrArg (·.closedSet) (completeFences_fu_eq s)

/-- A removal changes no other window. -/
theorem removeMop_window_ne {m : Mop} {i j : Fin 16} {g : Byte}
    (hw : m.window = some { index := i, generation := g }) (hj : j ≠ i) (s : State) :
    (removeMop m s).window j = s.window j := by
  have hother : ∀ u : State, (∀ k, k ≠ i → u.window k = (takenOut m i s).window k) → u.window j = s.window j :=
    fun u hu => (hu j hj).trans (window_withWindow_ne _ (Ne.symm hj) _)
  obtain ⟨-, h⟩ | ⟨-, -, ⟨-, h⟩ | ⟨-, h⟩⟩ := removeMop_cases hw s <;> rw [h, completeFences_window]
  · exact hother _ fun _ _ => rfl
  · exact hother _ fun k hk => by simp [toStaged_window, hk]
  · exact hother _ fun k hk => by simp [toEmpty_window, hk]

/-- A removal that drains nothing lowers the count (R20). -/
theorem removeMop_stays {m : Mop} {i : Fin 16} {g : Byte} {s : State}
    (hw : m.window = some { index := i, generation := g })
    (hstays : (s.window i).state ≠ .closing ∨ 2 ≤ (s.window i).inFlight) :
    removeMop m s = completeFences (takenOut m i s) := by
  obtain ⟨-, h⟩ | ⟨hclosing, hlast, -⟩ := removeMop_cases hw s
  · exact h
  · exact absurd hclosing (hstays.resolve_right (by omega))

/-- The last removal from a CLOSING window drains it to STAGED (R29). -/
theorem removeMop_toStaged {m : Mop} {i : Fin 16} {g : Byte} {s : State}
    (hw : m.window = some { index := i, generation := g }) (hclosing : (s.window i).state = .closing)
    (hlast : (s.window i).inFlight = 1) (hp : s.wt.clearAllPending = false) :
    removeMop m s = completeFences (toStaged i (takenOut m i s)) := by
  obtain ⟨hstays, -⟩ | ⟨-, -, ⟨-, h⟩ | ⟨hp', -⟩⟩ := removeMop_cases hw s
  · exact absurd ⟨hclosing, hlast.le⟩ hstays
  · exact h
  · simp [hp] at hp'

/-- During clear-all the last removal from a CLOSING window drains it to EMPTY, and may end the clear-all (R35). -/
theorem removeMop_toEmpty {m : Mop} {i : Fin 16} {g : Byte} {s : State}
    (hw : m.window = some { index := i, generation := g }) (hclosing : (s.window i).state = .closing)
    (hlast : (s.window i).inFlight = 1) (hp : s.wt.clearAllPending = true) :
    removeMop m s = completeFences (endClearAll (toEmpty i (takenOut m i s))) := by
  obtain ⟨hstays, -⟩ | ⟨-, -, ⟨hp', -⟩ | ⟨-, h⟩⟩ := removeMop_cases hw s
  · exact absurd ⟨hclosing, hlast.le⟩ hstays
  · simp [hp] at hp'
  · exact h

@[simp] theorem takenOut_window_same (m : Mop) (i : Fin 16) (s : State) :
    (takenOut m i s).window i = departed (s.window i) :=
  window_withWindow_same _ _ _

/-- The drained window's surface is released, and every other surface stays (R7). -/
theorem releaseClaim_takenOut_surface (m : Mop) (i : Fin 16) (s : State) (k : Fin 8) :
    (releaseClaim ((takenOut m i s).window i).staged.surface (takenOut m i s)).surface k
      = if k = (s.window i).staged.surface then (s.surface k).map fun d => { d with refCount := d.refCount - 1 }
        else s.surface k := by
  rw [releaseClaim_surface, takenOut_window_same]
  show (if k = (s.window i).staged.surface then _ else _) = _
  split
  · rename_i hk; subst hk; rfl
  · rfl

/-- The removal of a MOP outside the tables. -/
theorem removeMop_outside (s : State) (m : Mop) :
    (removeMop m s).oq.mops = s.oq.mops.filter (fun x => x.id ≠ m.id)
      ∧ (removeMop m s).oq.nextId = s.oq.nextId ∧ (removeMop m s).hsp = s.hsp ∧ (removeMop m s).msp = s.msp
      ∧ (removeMop m s).fu.log = s.fu.log ∧ (removeMop m s).fu.lost = s.fu.lost
      ∧ (removeMop m s).fu.haltedSet = s.fu.haltedSet ∧ (removeMop m s).fu.enables = s.fu.enables
      ∧ (removeMop m s).fu.notices.windowHalted = s.fu.notices.windowHalted
      ∧ (removeMop m s).mgp = s.mgp ∧ (removeMop m s).csN = s.csN ∧ (removeMop m s).resetN = s.resetN
      ∧ (removeMop m s).pending = s.pending
      ∧ (m.window = none →
          (removeMop m s).wt = s.wt ∧ (removeMop m s).st = s.st ∧ (removeMop m s).fu.closedSet = s.fu.closedSet
            ∧ (removeMop m s).fu.notices.windowClosed = s.fu.notices.windowClosed
            ∧ (removeMop m s).fu.notices.clearDone = s.fu.notices.clearDone) := by
  obtain ⟨hlog, hlost, hset, henables, hhalted⟩ := (notices_removeMop m s).faults_kept
  refine ⟨removeMop_mops m s, removeMop_nextId m s, removeMop_hsp m s, removeMop_msp m s, hlog, hlost, hset, henables,
    hhalted, removeMop_mgp m s, removeMop_csN m s, removeMop_resetN m s, removeMop_pending m s, fun hnone => ?_⟩
  have hremove : removeMop m s = completeFences (s.withMops (dropMop m.id s.oq.mops)) := by
    simp [removeMop, hnone, leaveTag]
  have hfu := completeFences_fu_eq (s.withMops (dropMop m.id s.oq.mops))
  rw [hremove]
  exact ⟨completeFences_wt _, completeFences_st _, completeFences_closedSet _,
    congrArg (·.notices.windowClosed) hfu, congrArg (·.notices.clearDone) hfu⟩

/-- Settles O43: the blocks outside the tables for every removal, and the tables by whether the window stays, drains to
STAGED, or drains to EMPTY under a clear-all. -/
theorem lastRemovalDrainsClosingWindow : Obligations.LastRemovalDrainsClosingWindow := by
  refine ⟨removeMop_outside, fun s m i g hw => ⟨fun j hj => removeMop_window_ne hw hj s, fun hstays => ?_,
    fun hclosing hlast hp => ?_, fun hclosing hlast hp => ?_⟩⟩
  · rw [removeMop_stays hw hstays]
    refine ⟨?_, completeFences_st _, congrArg (·.clearAllPending) (completeFences_wt _),
      completeFences_closedSet _⟩
    rw [completeFences_window, takenOut_window_same]
    rfl
  · have hfu := completeFences_fu_eq (toStaged i (takenOut m i s))
    rw [removeMop_toStaged hw hclosing hlast hp]
    refine ⟨?_, fun k => ?_, congrArg (·.notices.windowClosed) hfu, completeFences_closedSet _⟩
    · rw [completeFences_window, toStaged_window, if_pos rfl, takenOut_window_same]
      simp only [departed, hlast]
      rfl
    · rw [completeFences_surface, toStaged_surface, releaseClaim_takenOut_surface]
  · have hwindows : ∀ j, (toEmpty i (takenOut m i s)).window j
        = if j = i then Window.emptied (s.window i).generation else s.window j := by
      intro j
      rw [toEmpty_window, takenOut_window_same]
      split
      · rfl
      · rename_i hj; exact window_withWindow_ne _ (Ne.symm hj) _
    have hpending : (toEmpty i (takenOut m i s)).wt.clearAllPending = true := hp
    rw [removeMop_toEmpty hw hclosing hlast hp]
    refine ⟨?_, ?_, fun hsome => ?_, fun hnone => ?_⟩
    · rw [completeFences_window, endClearAll_window, hwindows, if_pos rfl]
    · rw [completeFences_closedSet]
      obtain ⟨h, -⟩ | ⟨-, -, h⟩ := endClearAll_cases (toEmpty i (takenOut m i s)) <;> rw [h] <;> rfl
    · obtain ⟨j, hj, hother⟩ := hsome
      rw [endClearAll_waiting ⟨j, by rw [hwindows, if_neg hj]; exact hother⟩]
      refine ⟨(congrArg (·.clearAllPending) (completeFences_wt _)).trans hpending, fun k => ?_⟩
      rw [completeFences_surface, toEmpty_surface, releaseClaim_takenOut_surface]
    · have hover := endClearAll_over hpending fun j => by
        rw [hwindows]
        split
        · simp [Window.emptied]
        · rename_i hj; exact hnone j hj
      have hfu := completeFences_fu_eq (endClearAll (toEmpty i (takenOut m i s)))
      refine ⟨?_, fun k => ?_, (congrArg (·.notices.clearDone) hfu).trans ?_⟩
      · rw [completeFences_wt, hover]
      · rw [completeFences_surface, hover]
        simp [State.surface]
      · rw [hover]
        rfl

end Sys2Proof.Proofs
end

section
/-! PROOF. The request channel: which window an access matches, when it may be taken, and what its taking leaves: the
refused accesses, the merge into the tail, and the held access. -/

namespace Sys2Proof.Proofs

open Sys2Proof.Machine Sys2Proof.Safety Sys2Proof.Claims

/-! ### The window that an access matches -/

theorem covers_iff (w : Window) (addr : Nat) : w.covers addr = true ↔ Covers w addr := by
  simp [Window.covers, Covers, open_iff_matching, and_assoc]

theorem serves_iff (k : Kind) (a : Access) : k.serves a.write = true ↔ Serves k a := by
  cases k <;> simp [Kind.serves, Serves]

theorem matchedWindow_of_matchesNone {s : State} {a : Access} (h : MatchesNone s a) :
    matchedWindow s.wt (accessAddr a) = none := by
  unfold matchedWindow
  rw [List.find?_eq_none]
  exact fun i _ hcovers => h i ((covers_iff _ _).1 hcovers)

/-- The one window that covers the address is the one found (R26, R39). -/
theorem matchedWindow_of_matches {s : State} {i : Fin 16} {a : Access} (h : Matches s i a) :
    matchedWindow s.wt (accessAddr a) = some i := by
  obtain ⟨hi, hothers⟩ := h
  unfold matchedWindow
  cases hfound : (List.finRange 16).find? fun j => s.wt.windows[j.val].covers (accessAddr a) with
  | none => exact absurd ((covers_iff _ _).2 hi) (List.find?_eq_none.1 hfound i (List.mem_finRange i))
  | some j =>
    by_contra hne
    have hj := List.find?_some hfound
    exact hothers j (fun e => hne (congrArg some e)) ((covers_iff _ _).1 hj)

theorem matches_unique {s : State} {i j : Fin 16} {a : Access} (hi : Matches s i a) (hj : Matches s j a) : j = i := by
  by_contra hne
  exact hi.2 j hne hj.1

/-! ### The disposition of an access -/

theorem disposition_of_matchesNone {s : State} {a : Access} (h : MatchesNone s a) :
    disposition s.wt a = .passThrough := by
  simp [disposition, matchedWindow_of_matchesNone h]

theorem disposition_of_halted {s : State} {i : Fin 16} {a : Access} (hm : Matches s i a)
    (hhalted : (s.window i).state = .halted) : disposition s.wt a = .haltedRefusal i := by
  have h : s.wt.windows[i.val].state = .halted := hhalted
  simp [disposition, matchedWindow_of_matches hm, h]

/-- A LIVE window serves the directions of its kind and finds the others wrong (R40). -/
theorem disposition_of_live {s : State} {i : Fin 16} {a : Access} (hm : Matches s i a)
    (hlive : (s.window i).state = .live) :
    disposition s.wt a
      = if (s.window i).staged.kind.serves a.write then .transformed i else .wrongDirection i := by
  have h : s.wt.windows[i.val].state = .live := hlive
  simp only [disposition, matchedWindow_of_matches hm, h, reduceCtorEq, if_false]
  rfl

theorem disposition_of_served {s : State} {i : Fin 16} {a : Access} (hm : Matches s i a)
    (hlive : (s.window i).state = .live) (hserves : Serves (s.window i).staged.kind a) :
    disposition s.wt a = .transformed i := by
  rw [disposition_of_live hm hlive, if_pos ((serves_iff _ a).2 hserves)]

theorem disposition_of_wrongDirection {s : State} {i : Fin 16} {a : Access} (hm : Matches s i a)
    (hlive : (s.window i).state = .live) (hserves : ¬ Serves (s.window i).staged.kind a) :
    disposition s.wt a = .wrongDirection i := by
  rw [disposition_of_live hm hlive, if_neg fun h => hserves ((serves_iff _ a).1 h)]

/-- A refused access has no MOPs (R55, R56). -/
theorem accessMops_of_refused {s : State} {i : Fin 16} {a : Access}
    (h : disposition s.wt a = .haltedRefusal i ∨ disposition s.wt a = .wrongDirection i) : accessMops s a = [] := by
  obtain h | h := h <;> simp [accessMops, accessParts, h, mopsOfParts]

/-- The window of an access that has MOPs serves it (R40, R55, R56). -/
theorem disposition_of_mops {s : State} {i : Fin 16} {a : Access} (hm : Matches s i a) (h : accessMops s a ≠ []) :
    disposition s.wt a = .transformed i := by
  obtain hlive | hhalted := hm.1.1
  · by_cases hserves : Serves (s.window i).staged.kind a
    · exact disposition_of_served hm hlive hserves
    · exact absurd (accessMops_of_refused (.inr (disposition_of_wrongDirection hm hlive hserves))) h
  · exact absurd (accessMops_of_refused (.inl (disposition_of_halted hm hhalted))) h

/-! ### Admission -/

theorem admissible_iff_admitted (s : State) (a : Access) : admissible s a = true ↔ Admitted s a := by
  rw [admissible_iff, Admitted]
  cases a.write <;> simp [Config.oqCapacity, Config.rqCapacity]

theorem admitted_of_no_mops {s : State} {a : Access} (hmops : accessMops s a = [])
    (hroom : a.write = false → s.hsp.entries.length < 8) : Admitted s a :=
  ⟨.inl (by rw [hmops]; rfl), hroom⟩

/-- An admitted access is taken outside reset, the request channel emptied (R125, R128). -/
theorem exec_taken {s : State} {a : Access} (hreset : s.resetN = true) (h : Admitted s a) :
    exec (.requestHandshake (some a)) s = .next (takeAccess a (setRequest none s)) := by
  have hadm := (admissible_iff_admitted s a).2 h
  show Host.Outcome.next (presentAccess a s) = _
  simp [presentAccess, hreset, hadm]

/-- An access that may not be taken is held (R125, R128, R133). -/
theorem exec_held {s : State} {a : Access} (h : s.resetN = false ∨ ¬ Admitted s a) :
    exec (.requestHandshake (some a)) s = .next (setRequest (some a) s) := by
  have hno : (s.resetN && admissible s a) = false := by
    obtain h | h := h
    · simp [h]
    · rw [← admissible_iff_admitted, Bool.not_eq_true] at h
      simp [h]
  show Host.Outcome.next (presentAccess a s) = _
  simp [presentAccess, hno]

theorem hAccept_iff (s : State) :
    hAccept s = true ↔ s.resetN = true ∧ ∃ b, s.hsp.request = some b ∧ Admitted s b := by
  unfold hAccept
  cases s.hsp.request with
  | none => simp
  | some b => simp [admissible_iff_admitted]

/-! ### What a taken access leaves at the request channel -/

@[simp] theorem pushEntry_request (a : Access) (n : Nat) (error : Bool) (s : State) :
    (pushEntry a n error s).hsp.request = s.hsp.request := by
  obtain ⟨-, h⟩ | ⟨-, h⟩ := pushEntry_cases a n error s <;> rw [h]

@[simp] theorem reportFault_request (r : FaultRecord) (s : State) :
    (reportFault r s).hsp.request = s.hsp.request := by
  obtain ⟨-, h⟩ | ⟨i, -, h⟩ := reportFault_cases r s
  · rw [h]; rfl
  · rw [h, haltWindow_hsp]; rfl

theorem takeAccess_request (a : Access) (s : State) : (takeAccess a s).hsp.request = s.hsp.request := by
  unfold takeAccess
  split
  · rw [pushEntry_request]; rfl
  · rw [pushEntry_request]; rfl
  · rw [reportFault_request, pushEntry_request]; rfl
  · rw [pushEntry_request]; rfl

/-- Settles O22, by the two outcomes of a presented access: taken or held. -/
theorem inadmissibleAccessIsHeld : Obligations.InadmissibleAccessIsHeld := by
  intro a s
  refine ⟨hAccept_iff s, ?_, fun h => ⟨_, exec_held h, ?_, rfl⟩, _, rfl, rfl, rfl⟩
  · by_cases h : s.resetN = true ∧ Admitted s a
    · exact ⟨_, exec_taken h.1 h.2, by simp [takeAccess_request, h]⟩
    · have hheld : s.resetN = false ∨ ¬ Admitted s a := by
        rwa [not_and_or, Bool.not_eq_true] at h
      exact ⟨_, exec_held hheld, by simp [h]⟩
  · rw [← Bool.not_eq_true, hAccept_iff]
    rintro ⟨hreset, b, hb, hadmitted⟩
    cases hb
    obtain hlow | hno := h
    · cases hlow.symm.trans hreset
    · exact hno hadmitted

/-! ### Refused accesses -/

/-- The bus address of an access is its word address with two bits 0 below (R38). -/
theorem ofNat_accessAddr (a : Access) : BitVec.ofNat 32 (accessAddr a) = a.addr ++ 0#2 := by
  apply BitVec.eq_of_toNat_eq
  have := a.addr.isLt
  simp only [BitVec.toNat_ofNat, BitVec.toNat_append, accessAddr, Nat.zero_mod, Nat.or_zero, Nat.shiftLeft_eq]
  omega

/-- The state of a refused access: the window's refused counter one higher, a read's entry in error (R54 to R56). -/
def refusedAccess (a : Access) (i : Fin 16) (s : State) : State :=
  pushEntry a 0 true (claimRefused i (setRequest none s))

theorem refusedAccess_eq (a : Access) (i : Fin 16) (s : State) :
    refusedAccess a i s
      = { s.withWindow i
            { s.window i with
              counters :=
                { (s.window i).counters with refused := min 65535 ((s.window i).counters.refused + 1) } } with
          hsp :=
            if a.write then { s.hsp with request := none }
            else
              { s.hsp with
                request := none
                entries := s.hsp.entries ++ [{ id := s.hsp.nextId, word := 0#32, outstanding := 0, error := true }]
                nextId := s.hsp.nextId + 1 } } := by
  unfold refusedAccess
  obtain ⟨hw, h⟩ | ⟨hw, h⟩ := pushEntry_cases a 0 true (claimRefused i (setRequest none s))
  · rw [h, hw]; rfl
  · rw [h, hw]; rfl

/-- Settles O26, by the two refusals of Table 3-1. -/
theorem refusedAccessCreatesNoMop : Obligations.RefusedAccessCreatesNoMop := by
  intro a s u i hreset hm hroom hu
  rw [← refusedAccess_eq] at hu
  subst hu
  refine ⟨fun hhalted => ?_, fun hlive hserves => ?_⟩
  · have hd := disposition_of_halted hm hhalted
    rw [exec_taken hreset (admitted_of_no_mops (accessMops_of_refused (.inl hd)) hroom)]
    simp only [takeAccess, setRequest_wt, hd]
    rfl
  · have hd := disposition_of_wrongDirection hm hlive hserves
    rw [exec_taken hreset (admitted_of_no_mops (accessMops_of_refused (.inr hd)) hroom), ← ofNat_accessAddr]
    simp only [takeAccess, setRequest_wt, hd]
    rfl

/-! ### The merge -/

/-- The model's test for a merge is the rule's (R53). -/
theorem mergesInto_iff (oq : OrderQueue) (m : Mop) : mergesInto oq m = true ↔ ∃ tail, TailTakes oq tail m := by
  have hplain : ∀ x : Mop, x.isPlain = true ↔ ∃ d, x.content = .plain d := fun x => by
    cases h : x.content <;> simp [Mop.isPlain, h]
  unfold mergesInto TailTakes
  cases oq.mops.getLast? with
  | none => simp
  | some t => simp [hplain, and_assoc]

/-- An access whose first MOP does not merge enters with all its MOPs (R49, R54). -/
theorem queueAfter_of_apart {s : State} {a : Access}
    (h : ∀ m tail, (accessMops s a).head? = some m → ¬ TailTakes s.oq tail m) :
    queueAfter s a = s.oq.mops ++ accessMops s a ∧ createdCount s a = (accessMops s a).length := by
  unfold queueAfter createdCount
  cases hmops : accessMops s a with
  | nil => simp
  | cons m rest =>
    rw [hmops] at h
    have hno : ¬ mergesInto s.oq m = true := fun hm => by
      obtain ⟨tail, htakes⟩ := (mergesInto_iff s.oq m).1 hm
      exact h m tail rfl htakes
    simp [hno]

/-- An access whose first MOP merges leaves the merged tail and the later MOPs (R53, R54). -/
theorem queueAfter_of_merge {s : State} {a : Access} {m tail : Mop} {rest : List Mop}
    (hmops : accessMops s a = m :: rest) (h : TailTakes s.oq tail m) :
    queueAfter s a = s.oq.mops.dropLast ++ mergeTail tail m :: rest ∧ createdCount s a = rest.length := by
  have hmerges := (mergesInto_iff s.oq m).2 ⟨tail, h⟩
  obtain ⟨hlast, -⟩ := h
  simp [queueAfter, createdCount, hmops, hmerges, mergeIntoTail, hlast]

/-! ### Accesses that are not refused -/

theorem takeAccess_passThrough {s : State} {a : Access} (hd : disposition s.wt a = .passThrough) :
    takeAccess a (setRequest none s)
      = pushEntry a (accessMops s a).length false (admitMops a (setRequest none s)) := by
  simp only [takeAccess, setRequest_wt, hd]
  rfl

theorem takeAccess_served {s : State} {i : Fin 16} {a : Access} (hd : disposition s.wt a = .transformed i) :
    takeAccess a (setRequest none s)
      = pushEntry a (accessMops s a).length false
          (claimAccepted i (createdCount s a) (admitMops a (setRequest none s))) := by
  simp only [takeAccess, setRequest_wt, hd]
  rfl

theorem pushEntry_of_write {a : Access} (h : a.write = true) (n : Nat) (error : Bool) (s : State) :
    pushEntry a n error s = s := by
  simp [pushEntry, h]

theorem mergeTail_plain {t m : Mop} {old new : Block} (ht : t.content = .plain old) (hm : m.content = .plain new) :
    mergeTail t m
      = { t with
          mask := t.mask ||| m.mask
          content := .plain (Vector.ofFn fun k => if m.mask.getLsbD k.val then new[k.val] else old[k.val]) } := by
  simp only [mergeTail, ht, hm]
  rfl

/-- Settles O25: the queue by the merge, the window by its claim, for a pass-through write and a served one. -/
theorem writeMergesIntoPendingTail : Obligations.WriteMergesIntoPendingTail := by
  intro a s m tail rest old new hreset hwrite hmatch hadmitted hmops htakes hold hnew
  obtain ⟨hqueue, hcount⟩ := queueAfter_of_merge hmops htakes
  have hoq : (admitMops a (setRequest none s)).oq
      = { s.oq with
          mops := s.oq.mops.dropLast ++ mergeTail tail m :: rest
          nextId := s.oq.nextId + 1 + rest.length } := by
    show { s.oq with mops := queueAfter s a, nextId := s.oq.nextId + (accessMops s a).length } = _
    rw [hqueue, hmops, List.length_cons, Nat.add_assoc, Nat.add_comm 1]
  rw [mergeTail_plain hold hnew] at hoq
  refine ⟨_, exec_taken hreset hadmitted, ?_⟩
  obtain hnone | ⟨i, hi⟩ := hmatch
  · rw [takeAccess_passThrough (disposition_of_matchesNone hnone), pushEntry_of_write hwrite]
    exact ⟨hoq, rfl, fun i hi => absurd hi.1 (hnone i), fun j _ => rfl, rfl, rfl, rfl, rfl, rfl, rfl, rfl, rfl⟩
  · have hd := disposition_of_mops hi (by rw [hmops]; exact List.cons_ne_nil _ _)
    rw [takeAccess_served hd, pushEntry_of_write hwrite, hcount]
    refine ⟨hoq, rfl, fun j hj => ?_, fun j hj => ?_, rfl, rfl, rfl, rfl, rfl, rfl, rfl, rfl⟩
    · rw [matches_unique hi hj]
      exact window_withWindow_same _ i _
    · exact window_withWindow_ne _ (fun e : i = j => hj (e ▸ hi)) _

end Sys2Proof.Proofs
end

section
/-! PROOF. The cut of an access at block boundaries: the masks and contents of its parts, and that the bytes and pixels
of every kind of access ascend. -/

namespace Sys2Proof.Proofs

open Sys2Proof.Machine Sys2Proof.Safety Sys2Proof.Claims

/-! ### Parts of a cut -/

/-- The four cuts of the model are one: the items of each block, with a mask and a content made of them (R49). -/
def cutWith {α : Type} (mask : List (Nat × α) → BitVec 64) (content : List (Nat × α) → MopContent)
    (items : List (Nat × α)) : List BlockPart :=
  (groupByBlock items).map fun g =>
    { block := g.1
      mask := mask g.2
      content := content g.2 }

/-- The mask of addressed bytes of one block. -/
def byteMask {α : Type} (bytes : List (Nat × α)) : BitVec 64 := maskOf (bytes.map fun x => x.1 % 64)

/-- The mask of the bytes of addressed pixels of one block. -/
def pixelMask {α : Type} (f : PixelFormat) (pixels : List (Nat × α)) : BitVec 64 := maskOf (pixelOffsets f pixels)

/-- The data of addressed bytes of one block. -/
def byteData (bytes : List (Nat × Byte)) : Block := blockOf (bytes.map fun x => (x.1 % 64, x.2))

/-- The entries of a contribution map for the sources in one block (R77). -/
def mapEntries (sources : List (Nat × Nat)) : List (Nat × Nat) := sources.map fun x => (x.2, x.1 % 64)

theorem plainParts_eq (bytes : List (Nat × Byte)) :
    plainParts bytes = cutWith byteMask (fun l => .plain (byteData l)) bytes := rfl

theorem coverageParts_eq (f : PixelFormat) (fg : Word) (pixels : List (Nat × Nat)) :
    coverageParts f fg pixels = cutWith (pixelMask f) (coverageContent f fg) pixels := rfl

theorem byteReadParts_eq (link : Nat) (sources : List (Nat × Nat)) :
    byteReadParts link sources = cutWith byteMask (fun l => .read link (.bytes (mapEntries l))) sources := rfl

theorem matchReadParts_eq (link : Nat) (f : PixelFormat) (sources : List (Nat × Nat)) :
    matchReadParts link f sources = cutWith (pixelMask f) (fun l => .read link (.bits (mapEntries l))) sources := rfl

theorem mem_itemsIn {α : Type} {b : Nat} {items : List (Nat × α)} {x : Nat × α} :
    x ∈ itemsIn b items ↔ x ∈ items ∧ x.1 / 64 = b := by
  simp [itemsIn]

/-- A cut of items in ascending address: one part for each block that holds an item, made of the items of that block
(R49). -/
theorem cutWith_spec {α : Type} {mask : List (Nat × α) → BitVec 64} {content : List (Nat × α) → MopContent}
    {items : List (Nat × α)} (hascend : items.Pairwise fun x y => x.1 ≤ y.1) (hmask : ∀ l ≠ [], mask l ≠ 0#64) :
    CutAtBlocks items (cutWith mask content items)
      ∧ ∀ p ∈ cutWith mask content items,
          p.mask = mask (itemsIn p.block items) ∧ p.content = content (itemsIn p.block items) := by
  obtain ⟨hblocks, hevery, hgroups⟩ := groupByBlock_sorted hascend
  refine ⟨⟨List.pairwise_map.2 hblocks, fun x hx => ?_, ?_⟩, ?_⟩
  · obtain ⟨g, hg, hblock⟩ := hevery x hx
    exact ⟨_, List.mem_map_of_mem hg, hblock⟩
  · rw [cutWith, List.forall_mem_map]
    intro g hg
    obtain ⟨hitems, hne⟩ := hgroups g hg
    refine ⟨hmask _ hne, ?_⟩
    obtain ⟨x, hx⟩ := List.exists_mem_of_ne_nil _ hne
    have hin : x ∈ itemsIn g.1 items := by rwa [hitems] at hx
    exact ⟨x, (mem_itemsIn.1 hin).1, (mem_itemsIn.1 hin).2.symm⟩
  · rw [cutWith, List.forall_mem_map]
    intro g hg
    exact ⟨congrArg mask (hgroups g hg).1, congrArg content (hgroups g hg).1⟩

/-! ### Masks -/

theorem maskOf_ne_zero {l : List Nat} {k : Nat} (hmem : k ∈ l) (hk : k < 64) : maskOf l ≠ 0#64 := fun h => by
  have hbit := (maskOf_getLsbD l k hk).2 hmem
  simp [h] at hbit

theorem byteMask_ne_zero {α : Type} (bytes : List (Nat × α)) (h : bytes ≠ []) : byteMask bytes ≠ 0#64 := by
  obtain ⟨x, hx⟩ := List.exists_mem_of_ne_nil _ h
  exact maskOf_ne_zero (List.mem_map_of_mem hx) (Nat.mod_lt _ (by decide))

theorem mem_pixelOffsets {α : Type} {f : PixelFormat} {pixels : List (Nat × α)} {o : Nat} :
    o ∈ pixelOffsets f pixels ↔ ∃ x ∈ pixels, ∃ k < f.bpp, x.1 % 64 + k = o := by
  simp [pixelOffsets]

theorem bpp_pos (f : PixelFormat) : 0 < f.bpp := by cases f <;> decide

theorem pixelMask_ne_zero {α : Type} (f : PixelFormat) (pixels : List (Nat × α)) (h : pixels ≠ []) :
    pixelMask f pixels ≠ 0#64 := by
  obtain ⟨x, hx⟩ := List.exists_mem_of_ne_nil _ h
  exact maskOf_ne_zero (mem_pixelOffsets.2 ⟨x, hx, 0, bpp_pos f, rfl⟩) (Nat.mod_lt _ (by decide))

/-- The byte mask of a block is exactly the bytes of the block (R49). -/
theorem byteMask_getLsbD {α : Type} (items : List (Nat × α)) (b : Nat) {k : Nat} (hk : k < 64) :
    (byteMask (itemsIn b items)).getLsbD k = true ↔ ∃ v, (64 * b + k, v) ∈ items := by
  rw [byteMask, maskOf_getLsbD _ _ hk, List.mem_map]
  constructor
  · rintro ⟨x, hx, hoffset⟩
    obtain ⟨hmem, hblock⟩ := mem_itemsIn.1 hx
    have haddr : 64 * b + k = x.1 := by omega
    exact ⟨x.2, haddr ▸ hmem⟩
  · rintro ⟨v, hmem⟩
    exact ⟨_, mem_itemsIn.2 ⟨hmem, by simp only; omega⟩, by simp only; omega⟩

/-- The pixel mask of a block is exactly the bytes of the block's pixels (R49, R60). -/
theorem pixelMask_getLsbD {α : Type} {f : PixelFormat} {items : List (Nat × α)} (hin : PixelsInBlocks f items) (b : Nat)
    {k : Nat} (hk : k < 64) :
    (pixelMask f (itemsIn b items)).getLsbD k = true
      ↔ ∃ x ∈ items, x.1 ≤ 64 * b + k ∧ 64 * b + k < x.1 + f.bpp := by
  rw [pixelMask, maskOf_getLsbD _ _ hk, mem_pixelOffsets]
  constructor
  · rintro ⟨x, hx, j, hj, hoffset⟩
    obtain ⟨hmem, hblock⟩ := mem_itemsIn.1 hx
    exact ⟨x, hmem, by omega⟩
  · rintro ⟨x, hmem, hfirst, hlast⟩
    have hfits := hin x hmem
    exact ⟨x, mem_itemsIn.2 ⟨hmem, by omega⟩, k - x.1 % 64, by omega⟩

/-! ### Data -/

/-- Of items with distinct keys each is the one found under its key. -/
theorem lookup_of_mem {β : Type} : ∀ {l : List (Nat × β)} {k : Nat} {v : β}, l.Pairwise (fun x y => x.1 ≠ y.1) →
    (k, v) ∈ l → l.lookup k = some v
  | x :: rest, k, v, hdistinct, hmem => by
    rw [List.pairwise_cons] at hdistinct
    obtain ⟨hfirst, hrest⟩ := hdistinct
    obtain rfl | hmem := List.mem_cons.1 hmem
    · exact List.lookup_cons_self
    · have hne : (k == x.1) = false := beq_false_of_ne (hfirst _ hmem).symm
      rw [List.lookup_cons, hne]
      exact lookup_of_mem hrest hmem

/-- The data of a block holds each byte of the block (R49). -/
theorem byteData_getElem {bytes : List (Nat × Byte)} (h : BytesAscend bytes) {b : Nat} {k : Fin 64} {v : Byte}
    (hmem : (64 * b + k.val, v) ∈ bytes) : (byteData (itemsIn b bytes))[k.val] = v := by
  have hdistinct : ((itemsIn b bytes).map fun x => (x.1 % 64, x.2)).Pairwise (fun x y => x.1 ≠ y.1) := by
    rw [List.pairwise_map]
    refine List.Pairwise.imp_of_mem (fun {x y} hx hy hlt => ?_) (h.sublist List.filter_sublist)
    have hx := (mem_itemsIn.1 hx).2
    have hy := (mem_itemsIn.1 hy).2
    omega
  have hin : (k.val, v) ∈ (itemsIn b bytes).map fun x => (x.1 % 64, x.2) :=
    List.mem_map.2 ⟨_, mem_itemsIn.2 ⟨hmem, by simp only; omega⟩, Prod.ext (by simp only; omega) rfl⟩
  simp [byteData, blockOf, lookup_of_mem hdistinct hin]

/-! ### The parts of each kind -/

theorem ordered_of_bytesAscend {α : Type} {items : List (Nat × α)} (h : BytesAscend items) :
    items.Pairwise fun x y => x.1 ≤ y.1 := h.imp Nat.le_of_lt

theorem ordered_of_pixelsAscend {α : Type} {f : PixelFormat} {items : List (Nat × α)} (h : PixelsAscend f items) :
    items.Pairwise fun x y => x.1 ≤ y.1 := h.imp fun hxy => by omega

theorem plainParts_spec {bytes : List (Nat × Byte)} (h : BytesAscend bytes) :
    CutAtBlocks bytes (plainParts bytes)
      ∧ ∀ p ∈ plainParts bytes,
          p.mask = byteMask (itemsIn p.block bytes) ∧ p.content = .plain (byteData (itemsIn p.block bytes)) :=
  plainParts_eq bytes ▸ cutWith_spec (ordered_of_bytesAscend h) byteMask_ne_zero

theorem coverageParts_spec {f : PixelFormat} (fg : Word) {pixels : List (Nat × Nat)} (h : PixelsAscend f pixels) :
    CutAtBlocks pixels (coverageParts f fg pixels)
      ∧ ∀ p ∈ coverageParts f fg pixels,
          p.mask = pixelMask f (itemsIn p.block pixels) ∧ p.content = coverageContent f fg (itemsIn p.block pixels) :=
  coverageParts_eq f fg pixels ▸ cutWith_spec (ordered_of_pixelsAscend h) (pixelMask_ne_zero f)

theorem byteReadParts_spec (link : Nat) {sources : List (Nat × Nat)} (h : BytesAscend sources) :
    CutAtBlocks sources (byteReadParts link sources)
      ∧ ∀ p ∈ byteReadParts link sources,
          p.mask = byteMask (itemsIn p.block sources)
            ∧ p.content = .read link (.bytes (mapEntries (itemsIn p.block sources))) :=
  byteReadParts_eq link sources ▸ cutWith_spec (ordered_of_bytesAscend h) byteMask_ne_zero

theorem matchReadParts_spec (link : Nat) {f : PixelFormat} {sources : List (Nat × Nat)} (h : PixelsAscend f sources) :
    CutAtBlocks sources (matchReadParts link f sources)
      ∧ ∀ p ∈ matchReadParts link f sources,
          p.mask = pixelMask f (itemsIn p.block sources)
            ∧ p.content = .read link (.bits (mapEntries (itemsIn p.block sources))) :=
  matchReadParts_eq link f sources ▸ cutWith_spec (ordered_of_pixelsAscend h) (pixelMask_ne_zero f)

/-! ### The pixels of a group -/

theorem outsideClip_eq_false (clip : Option Clip) (sx sy : Nat) :
    outsideClip clip sx sy = false
      ↔ ∀ c ∈ clip, c.left.toNat ≤ sx ∧ sx ≤ c.right.toNat ∧ c.top.toNat ≤ sy ∧ sy ≤ c.bottom.toNat := by
  cases clip with
  | none => simp [outsideClip]
  | some c => simp [outsideClip, and_assoc]

/-- A window pixel is not masked by position: it lies in the window, on the surface and inside the clip (R46). -/
theorem maskedByPosition_eq_false (w : Staged) (d : Surface) (col sx sy : Nat) :
    maskedByPosition w d col sx sy = false
      ↔ col < w.width.toNat ∧ sx < d.width.toNat ∧ sy < d.height.toNat ∧ outsideClip w.clip sx sy = false := by
  simp [maskedByPosition, and_assoc]

/-- The model's pixel of a group position is the rules' (R43 to R46). -/
theorem groupPixel_iff (w : Window) (d : Surface) (a : Access) (m x : Nat) :
    groupPixel w d (accessAddr a) m = some x ↔ PixelAddress w d a m x := by
  simp only [groupPixel, Option.ite_none_left_eq_some, Bool.not_eq_true, Option.some.injEq, maskedByPosition_eq_false,
    outsideClip_eq_false]
  constructor
  · rintro ⟨⟨hcol, hsx, hsy, hclip⟩, rfl⟩
    exact ⟨hcol, hsx, hsy, hclip, rfl⟩
  · rintro ⟨hcol, hsx, hsy, hclip, rfl⟩
    exact ⟨⟨hcol, hsx, hsy, hclip⟩, rfl⟩

/-- The byte address that position 0 of the group of an access has on the surface (R43, R45). -/
def groupBase (w : Window) (d : Surface) (addr : Nat) : Nat :=
  pixelAddr d (w.staged.originX.toNat + firstColumn w.staged.kind d.format (accessPos w addr))
    (w.staged.originY.toNat + accessRow w addr)

/-- The pixels of a group follow each other without a gap (R43, R45). -/
theorem groupPixel_address {w : Window} {d : Surface} {addr m x : Nat} (h : groupPixel w d addr m = some x) :
    x = groupBase w d addr + m * d.format.bpp := by
  simp only [groupPixel, Option.ite_none_left_eq_some, Option.some.injEq] at h
  rw [← h.2, groupBase]
  simp only [pixelAddr]
  ring

/-- Byte `k` of a DIRECT word lies `k` bytes behind the word's first (R44). -/
theorem directByte_address {w : Window} {d : Surface} {addr k p : Nat}
    (h : groupPixel w d addr (k / d.format.bpp) = some p) : p + k % d.format.bpp = groupBase w d addr + k := by
  rw [groupPixel_address h, Nat.add_assoc, Nat.div_add_mod']

theorem directByte_ascends {w : Window} {d : Surface} {addr i j p q : Nat} (hlt : i < j)
    (hi : groupPixel w d addr (i / d.format.bpp) = some p) (hj : groupPixel w d addr (j / d.format.bpp) = some q) :
    p + i % d.format.bpp < q + j % d.format.bpp := by
  rw [directByte_address hi, directByte_address hj]
  omega

theorem groupPixel_ascends {w : Window} {d : Surface} {addr i j p q : Nat} (hlt : i < j)
    (hi : groupPixel w d addr i = some p) (hj : groupPixel w d addr j = some q) : p + d.format.bpp ≤ q := by
  rw [groupPixel_address hi, groupPixel_address hj, Nat.add_assoc, ← Nat.succ_mul]
  exact Nat.add_le_add_left (Nat.mul_le_mul_right _ hlt) _

/-- A pixel of a sound surface starts at a multiple of its size and ends below the top of the address space (R5,
R60). -/
theorem pixelAddress_sound {w : Window} {d : Surface} {a : Access} {m x : Nat} (hd : SurfaceSound d)
    (h : PixelAddress w d a m x) : x % 64 + d.format.bpp ≤ 64 ∧ x + d.format.bpp - 1 ≤ 0xFFFFFFFF := by
  obtain ⟨-, hx, hy, -, rfl⟩ := h
  exact surfacePixelsStayInOneBlock d _ _ hd hx hy

/-! ### The bytes and pixels of each kind ascend -/

/-- Items picked along a range stand in the order of their positions. -/
theorem pairwise_filterMap_range {β : Type} {R : β → β → Prop} (n : Nat) {pick : Nat → Option β}
    (h : ∀ i j x y, i < j → pick i = some x → pick j = some y → R x y) :
    ((List.range n).filterMap pick).Pairwise R :=
  List.pairwise_filterMap.2 (List.pairwise_lt_range.imp fun hlt x hx y hy => h _ _ x y hlt hx hy)

theorem passBytes_ascend (a : Access) : BytesAscend (passBytes a) := by
  refine pairwise_filterMap_range 4 fun i j x y hlt hx hy => ?_
  simp only [Option.ite_none_right_eq_some, Option.some.injEq] at hx hy
  rw [← hx.2, ← hy.2]
  exact Nat.add_lt_add_left hlt _

theorem passSources_ascend (a : Access) : BytesAscend (passSources a) :=
  List.pairwise_map.2 (List.pairwise_lt_range.imp fun hlt => Nat.add_lt_add_left hlt _)

theorem directBytes_ascend (w : Window) (d : Surface) (a : Access) : BytesAscend (directBytes w d a) := by
  refine pairwise_filterMap_range 4 fun i j x y hlt hx hy => ?_
  simp only [Option.ite_none_right_eq_some, Option.map_eq_some_iff] at hx hy
  obtain ⟨-, p, hp, rfl⟩ := hx
  obtain ⟨-, q, hq, rfl⟩ := hy
  exact directByte_ascends hlt hp hq

theorem directSources_pairwise (w : Window) (d : Surface) (a : Access) :
    (directSources w d a).Pairwise fun x y => x.1 < y.1 ∧ x.2 < y.2 := by
  refine pairwise_filterMap_range 4 fun i j x y hlt hx hy => ?_
  obtain ⟨p, hp, rfl⟩ := Option.map_eq_some_iff.1 hx
  obtain ⟨q, hq, rfl⟩ := Option.map_eq_some_iff.1 hy
  exact ⟨directByte_ascends hlt hp hq, hlt⟩

theorem directSources_ascend (w : Window) (d : Surface) (a : Access) : BytesAscend (directSources w d a) :=
  (directSources_pairwise w d a).imp And.left

theorem coveragePixels_ascend (w : Window) (d : Surface) (a : Access) :
    PixelsAscend d.format (coveragePixels w d a) := by
  refine pairwise_filterMap_range 8 fun i j x y hlt hx hy => ?_
  simp only [Option.ite_none_right_eq_some, Option.map_eq_some_iff] at hx hy
  obtain ⟨-, p, hp, rfl⟩ := hx
  obtain ⟨-, q, hq, rfl⟩ := hy
  exact groupPixel_ascends hlt hp hq

theorem matchSources_pairwise (w : Window) (d : Surface) (a : Access) :
    (matchSources w d a).Pairwise fun x y => x.1 + d.format.bpp ≤ y.1 ∧ x.2 < y.2 := by
  refine pairwise_filterMap_range 32 fun i j x y hlt hx hy => ?_
  obtain ⟨p, hp, rfl⟩ := Option.map_eq_some_iff.1 hx
  obtain ⟨q, hq, rfl⟩ := Option.map_eq_some_iff.1 hy
  exact ⟨groupPixel_ascends hlt hp hq, hlt⟩

theorem matchSources_ascend (w : Window) (d : Surface) (a : Access) : PixelsAscend d.format (matchSources w d a) :=
  (matchSources_pairwise w d a).imp And.left

/-! ### Membership: the bytes and pixels of each kind by the rules -/

theorem mem_pixelBytes {f : PixelFormat} {p x : Nat} {c : Word} {v : Byte} :
    (x, v) ∈ pixelBytes f p c ↔ ∃ k < f.bpp, x = p + k ∧ v = wordByte c k := by
  simp [pixelBytes, eq_comm]

/-- The bytes that position `m` of the group of an EXPAND write draws (R62, R63). -/
theorem mem_expandPixel {w : Window} {d : Surface} {a : Access} {m x : Nat} {v : Byte} :
    ((x, v) ∈
        if a.be.getLsbD (m / 8) then
          match groupPixel w d (accessAddr a) m, patternColour w.staged d.format (a.wdata.getLsbD m) with
          | some p, some c => pixelBytes d.format p c
          | _, _ => []
        else [])
      ↔ a.be.getLsbD (m / 8) = true
        ∧ ∃ p c, groupPixel w d (accessAddr a) m = some p
            ∧ patternColour w.staged d.format (a.wdata.getLsbD m) = some c ∧ (x, v) ∈ pixelBytes d.format p c := by
  split
  · cases groupPixel w d (accessAddr a) m <;> cases patternColour w.staged d.format (a.wdata.getLsbD m) <;> simp [*]
  · simp [*]

theorem expandBytes_ascend (w : Window) (d : Surface) (a : Access) : BytesAscend (expandBytes w d a) := by
  refine List.pairwise_flatMap.2 ⟨fun m _ => ?_, List.pairwise_lt_range.imp fun {i j} hlt x hx y hy => ?_⟩
  · split
    · split
      · exact List.pairwise_map.2 (List.pairwise_lt_range.imp fun hlt => Nat.add_lt_add_left hlt _)
      · exact .nil
    · exact .nil
  · obtain ⟨-, p, c, hp, -, hx⟩ := mem_expandPixel.1 hx
    obtain ⟨-, q, c', hq, -, hy⟩ := mem_expandPixel.1 hy
    obtain ⟨k, hk, hx, -⟩ := mem_pixelBytes.1 hx
    obtain ⟨k', -, hy, -⟩ := mem_pixelBytes.1 hy
    have := groupPixel_ascends hlt hp hq
    omega

theorem mem_directBytes {w : Window} {d : Surface} {a : Access} {x : Nat} {v : Byte} :
    (x, v) ∈ directBytes w d a ↔ DrawnDirect w d a x v := by
  simp only [directBytes, DrawnDirect, List.mem_filterMap, List.mem_range, Option.ite_none_right_eq_some,
    Option.map_eq_some_iff, groupPixel_iff, Prod.mk.injEq, wordByte_eq_leByte]
  constructor
  · rintro ⟨k, hk, hbe, p, hp, rfl, rfl⟩
    exact ⟨k, p, hk, hbe, hp, rfl, rfl⟩
  · rintro ⟨k, p, hk, hbe, hp, rfl, rfl⟩
    exact ⟨k, hk, hbe, p, hp, rfl, rfl⟩

theorem mem_directSources {w : Window} {d : Surface} {a : Access} {x k : Nat} :
    (x, k) ∈ directSources w d a ↔ ReadDirect w d a k x := by
  simp only [directSources, ReadDirect, List.mem_filterMap, List.mem_range, Option.map_eq_some_iff, groupPixel_iff,
    Prod.mk.injEq]
  constructor
  · rintro ⟨j, hj, p, hp, rfl, rfl⟩
    exact ⟨hj, p, hp, rfl⟩
  · rintro ⟨hk, p, hp, rfl⟩
    exact ⟨k, hk, p, hp, rfl, rfl⟩

theorem mem_coveragePixels {w : Window} {d : Surface} {a : Access} {x c : Nat} :
    (x, c) ∈ coveragePixels w d a ↔ Covered w d a x c := by
  have hvalue : ∀ m, coverageValue a.wdata m = a.wdata.toNat / 16 ^ m % 16 := fun m => by
    rw [coverageValue, BitVec.extractLsb'_toNat, Nat.shiftRight_eq_div_pow, Nat.pow_mul]
  simp only [coveragePixels, Covered, List.mem_filterMap, List.mem_range, Option.ite_none_right_eq_some,
    Option.map_eq_some_iff, Bool.and_eq_true, decide_eq_true_eq, groupPixel_iff, Prod.mk.injEq, hvalue]
  constructor
  · rintro ⟨m, hm, ⟨hbe, hne⟩, p, hp, rfl, rfl⟩
    exact ⟨m, hm, hbe, hp, rfl, hne⟩
  · rintro ⟨m, hm, hbe, hp, rfl, hne⟩
    exact ⟨m, hm, ⟨hbe, hne⟩, x, hp, rfl, rfl⟩

theorem mem_matchSources {w : Window} {d : Surface} {a : Access} {x n : Nat} :
    (x, n) ∈ matchSources w d a ↔ ReadMatch w d a n x := by
  simp only [matchSources, ReadMatch, List.mem_filterMap, List.mem_range, Option.map_eq_some_iff, groupPixel_iff,
    Prod.mk.injEq]
  constructor
  · rintro ⟨m, hm, p, hp, rfl, rfl⟩
    exact ⟨hm, hp⟩
  · rintro ⟨hn, hp⟩
    exact ⟨n, hn, x, hp, rfl, rfl⟩

theorem coveragePixels_inBlocks {w : Window} {d : Surface} (a : Access) (hd : SurfaceSound d) :
    PixelsInBlocks d.format (coveragePixels w d a) := fun x hx => by
  obtain ⟨m, -, -, hp, -⟩ := mem_coveragePixels.1 hx
  exact (pixelAddress_sound hd hp).1

theorem matchSources_inBlocks {w : Window} {d : Surface} (a : Access) (hd : SurfaceSound d) :
    PixelsInBlocks d.format (matchSources w d a) := fun x hx => by
  obtain ⟨-, hp⟩ := mem_matchSources.1 hx
  exact (pixelAddress_sound hd hp).1

/-- Settles O28: the parts of each kind from one law of the cut, the order of the items from their positions. -/
theorem splittingMakesOneMopPerBlock : Obligations.SplittingMakesOneMopPerBlock := by
  refine ⟨fun bytes h => ?_, fun f fg pixels h hin => ?_, fun link sources h => ?_, fun link f sources h hin => ?_,
    fun w d a => ⟨passBytes_ascend a, passSources_ascend a, directBytes_ascend w d a, expandBytes_ascend w d a,
      directSources_ascend w d a, coveragePixels_ascend w d a, matchSources_ascend w d a,
      fun hd => ⟨coveragePixels_inBlocks a hd, matchSources_inBlocks a hd⟩⟩⟩
  · obtain ⟨hcut, hparts⟩ := plainParts_spec h
    refine ⟨hcut, fun p hp => ?_⟩
    obtain ⟨hmask, hcontent⟩ := hparts p hp
    rw [hmask]
    exact ⟨fun k hk => byteMask_getLsbD bytes _ hk, _, hcontent, fun k v => byteData_getElem h⟩
  · obtain ⟨hcut, hparts⟩ := coverageParts_spec fg h
    refine ⟨hcut, fun p hp => ?_⟩
    obtain ⟨hmask, hcontent⟩ := hparts p hp
    rw [hmask]
    exact ⟨fun k hk => pixelMask_getLsbD hin _ hk, hcontent⟩
  · obtain ⟨hcut, hparts⟩ := byteReadParts_spec link h
    refine ⟨hcut, fun p hp => ?_⟩
    obtain ⟨hmask, hcontent⟩ := hparts p hp
    rw [hmask]
    exact ⟨fun k hk => byteMask_getLsbD sources _ hk, hcontent⟩
  · obtain ⟨hcut, hparts⟩ := matchReadParts_spec link h
    refine ⟨hcut, fun p hp => ?_⟩
    obtain ⟨hmask, hcontent⟩ := hparts p hp
    rw [hmask]
    exact ⟨fun k hk => pixelMask_getLsbD hin _ hk, hcontent⟩

end Sys2Proof.Proofs
end

section
/-! PROOF. The MOPs that a taken access brings into the queue: their fields by the parts of the access, the one MOP of a
pass-through access, and the state that a served access leaves. -/

namespace Sys2Proof.Proofs

open Sys2Proof.Machine Sys2Proof.Safety Sys2Proof.Claims

/-! ### MOPs of parts -/

/-- What a MOP takes from its part: the block address, the mask and the content (R49, R50). -/
theorem mopsOfParts_map (tag : Option WindowTag) (host : Word) : ∀ (parts : List BlockPart) (id : Nat),
    (mopsOfParts id tag host parts).map (fun m => (m.block, m.mask, m.content))
      = parts.map fun p => (BitVec.ofNat 32 (64 * p.block), p.mask, p.content)
  | [], _ => rfl
  | p :: rest, id => by simp only [mopsOfParts, List.map_cons, mopsOfParts_map tag host rest]

/-- What a MOP takes from its place and its access: its serial number, PENDING, the address and the tag (R50). -/
theorem mopsOfParts_getElem? (tag : Option WindowTag) (host : Word) :
    ∀ (parts : List BlockPart) (id k : Nat) (m : Mop), (mopsOfParts id tag host parts)[k]? = some m →
      m.id = id + k ∧ m.state = .pending ∧ m.hostAddr = host ∧ m.window = tag
  | [], _, _, _, h => by simp [mopsOfParts] at h
  | p :: rest, id, 0, m, h => by
    cases h
    exact ⟨rfl, rfl, rfl, rfl⟩
  | p :: rest, id, k + 1, m, h => by
    obtain ⟨hid, hfields⟩ := mopsOfParts_getElem? tag host rest (id + 1) k m h
    exact ⟨by omega, hfields⟩

/-! ### Pass-through accesses -/

theorem accessMops_of_matchesNone {s : State} {a : Access} (h : MatchesNone s a) :
    accessMops s a = mopsOfParts s.oq.nextId none (a.addr ++ 0#2) (passParts s.hsp.nextId a) := by
  simp only [accessMops, accessTag, accessParts, disposition_of_matchesNone h, ofNat_accessAddr]

/-- A run of items of one block is not cut (R49). -/
theorem groupByBlock_of_one_block {α : Type} {b : Nat} : ∀ {l : List (Nat × α)}, l ≠ [] → (∀ x ∈ l, x.1 / 64 = b) →
    groupByBlock l = [(b, l)]
  | [x], _, h => by simp [groupByBlock, h x]
  | x :: y :: rest, _, h => by
    have hrest := groupByBlock_of_one_block (List.cons_ne_nil y rest) fun z hz => h z (List.mem_cons_of_mem _ hz)
    rw [groupByBlock, hrest]
    simp [h x]

/-- The block address of an access (R41, R42). -/
theorem blockAddress_eq (a : Access) :
    BitVec.ofNat 32 (64 * (a.addr.toNat * 4 / 64)) = a.addr.extractLsb' 4 26 ++ 0#6 := by
  apply BitVec.eq_of_toNat_eq
  have := a.addr.isLt
  simp only [BitVec.toNat_ofNat, BitVec.toNat_append, BitVec.extractLsb'_toNat, Nat.zero_mod, Nat.or_zero,
    Nat.shiftLeft_eq, Nat.shiftRight_eq_div_pow]
  omega

/-- An access of one block brings one MOP. -/
theorem mopsOfParts_of_one_block {α : Type} {mask : List (Nat × α) → BitVec 64}
    {content : List (Nat × α) → MopContent} {items : List (Nat × α)} {a : Access} (hne : items ≠ [])
    (hone : ∀ x ∈ items, x.1 / 64 = a.addr.toNat * 4 / 64) (id : Nat) (tag : Option WindowTag) (host : Word) :
    mopsOfParts id tag host (cutWith mask content items)
      = [{ id := id
           block := a.addr.extractLsb' 4 26 ++ 0#6
           mask := mask items
           content := content items
           window := tag
           hostAddr := host
           state := .pending }] := by
  rw [cutWith, groupByBlock_of_one_block hne hone, List.map_singleton, mopsOfParts, mopsOfParts, blockAddress_eq]

theorem mem_passBytes {a : Access} {x : Nat} {v : Byte} :
    (x, v) ∈ passBytes a ↔ ∃ k < 4, a.be.getLsbD k = true ∧ x = a.addr.toNat * 4 + k ∧ v = leByte a.wdata k := by
  simp only [passBytes, accessAddr, List.mem_filterMap, List.mem_range, Option.ite_none_right_eq_some,
    Option.some.injEq, Prod.mk.injEq, wordByte_eq_leByte, @eq_comm _ x, @eq_comm _ v]

theorem be_eq_zero_iff (be : BitVec 4) : be = 0#4 ↔ ∀ k < 4, be.getLsbD k = false := by
  constructor
  · rintro rfl k -
    exact BitVec.getLsbD_zero
  · exact fun h => BitVec.eq_of_getLsbD_eq fun k hk => by rw [h k hk, BitVec.getLsbD_zero]

theorem passBytes_eq_nil_iff (a : Access) : passBytes a = [] ↔ a.be = 0#4 := by
  simp [passBytes, be_eq_zero_iff]

theorem passBytes_block (a : Access) : ∀ x ∈ passBytes a, x.1 / 64 = a.addr.toNat * 4 / 64 := fun x hx => by
  obtain ⟨k, hk, -, hx, -⟩ := mem_passBytes.1 hx
  omega

theorem passSources_ne_nil (a : Access) : passSources a ≠ [] := List.cons_ne_nil _ _

theorem passSources_block (a : Access) : ∀ x ∈ passSources a, x.1 / 64 = a.addr.toNat * 4 / 64 := fun x hx => by
  obtain ⟨k, hk, rfl⟩ := List.mem_map.1 hx
  have := List.mem_range.1 hk
  simp only [accessAddr]
  omega

theorem itemsIn_of_one_block {α : Type} {b : Nat} {items : List (Nat × α)} (h : ∀ x ∈ items, x.1 / 64 = b) :
    itemsIn b items = items := List.filter_eq_self.2 fun x hx => decide_eq_true (h x hx)

/-- The mask of the bytes of a word that these enables pick is the enables at the word's place in its block (R41,
R42). -/
theorem byteMask_of_word {α : Type} {items : List (Nat × α)} {a : Access} (be : BitVec 4)
    (hitems : ∀ x, (∃ v, (x, v) ∈ items) ↔ ∃ k < 4, be.getLsbD k = true ∧ x = a.addr.toNat * 4 + k) :
    byteMask items = (be.setWidth 64) <<< (a.addr.toNat * 4 % 64) := by
  have hall : itemsIn (a.addr.toNat * 4 / 64) items = items := by
    refine itemsIn_of_one_block fun x hx => ?_
    obtain ⟨k, hk, -, haddr⟩ := (hitems x.1).1 ⟨x.2, hx⟩
    omega
  refine BitVec.eq_of_getLsbD_eq fun k hk => Bool.eq_iff_iff.2 ?_
  rw [← hall, byteMask_getLsbD _ _ hk, hitems]
  simp only [BitVec.getLsbD_shiftLeft, BitVec.getLsbD_setWidth, Bool.and_eq_true, Bool.not_eq_true',
    decide_eq_true_eq, decide_eq_false_iff_not]
  constructor
  · rintro ⟨j, hj, hbe, haddr⟩
    have hplace : k - a.addr.toNat * 4 % 64 = j := by omega
    exact ⟨⟨hk, by omega⟩, by omega, hplace ▸ hbe⟩
  · rintro ⟨⟨-, hle⟩, -, hbe⟩
    exact ⟨_, BitVec.lt_of_getLsbD hbe, hbe, by omega⟩

theorem byteMask_passBytes (a : Access) :
    byteMask (passBytes a) = (a.be.setWidth 64) <<< (a.addr.toNat * 4 % 64) := by
  refine byteMask_of_word a.be fun x => ⟨?_, ?_⟩
  · rintro ⟨v, hmem⟩
    obtain ⟨k, hk, hbe, hx, -⟩ := mem_passBytes.1 hmem
    exact ⟨k, hk, hbe, hx⟩
  · rintro ⟨k, hk, hbe, hx⟩
    exact ⟨_, mem_passBytes.2 ⟨k, hk, hbe, hx, rfl⟩⟩

theorem byteMask_passSources (a : Access) : byteMask (passSources a) = 0xF#64 <<< (a.addr.toNat * 4 % 64) := by
  have henables : ∀ k < 4, (0xF#4).getLsbD k = true := by decide
  refine byteMask_of_word 0xF#4 fun x => ⟨?_, ?_⟩
  · rintro ⟨r, hmem⟩
    obtain ⟨k, hk, heq⟩ := List.mem_map.1 hmem
    cases heq
    exact ⟨r, List.mem_range.1 hk, henables r (List.mem_range.1 hk), rfl⟩
  · rintro ⟨k, hk, -, rfl⟩
    exact ⟨k, List.mem_map.2 ⟨k, List.mem_range.2 hk, rfl⟩⟩

theorem mapEntries_passSources {a : Access} {o : Nat} (ho : o = a.addr.toNat * 4 % 64) :
    mapEntries (passSources a) = [(0, o), (1, o + 1), (2, o + 2), (3, o + 3)] := by
  have hplace : ∀ k < 4, (accessAddr a + k) % 64 = o + k := fun k hk => by
    simp only [accessAddr]
    omega
  simp only [mapEntries, passSources, List.map_map]
  show [(0, (accessAddr a + 0) % 64), (1, (accessAddr a + 1) % 64), (2, (accessAddr a + 2) % 64),
    (3, (accessAddr a + 3) % 64)] = _
  rw [hplace 0 (by decide), hplace 1 (by decide), hplace 2 (by decide), hplace 3 (by decide), Nat.add_zero]

/-- The data of a pass-through write: its enabled bytes at the word's place in its block, 0 elsewhere (R41). -/
theorem byteData_passBytes {a : Access} {o : Nat} (ho : o = a.addr.toNat * 4 % 64) :
    byteData (passBytes a)
      = Vector.ofFn fun k =>
          if o ≤ k.val ∧ k.val < o + 4 ∧ a.be.getLsbD (k.val - o) then leByte a.wdata (k.val - o) else 0#8 := by
  refine Vector.ext fun k hk => ?_
  rw [Vector.getElem_ofFn]
  dsimp only
  split
  · rename_i h
    obtain ⟨hle, hlt, hbe⟩ := h
    have hplace : 64 * (a.addr.toNat * 4 / 64) + k = a.addr.toNat * 4 + (k - o) := by omega
    rw [← itemsIn_of_one_block (passBytes_block a)]
    exact byteData_getElem (passBytes_ascend a) (k := ⟨k, hk⟩)
      (mem_passBytes.2 ⟨k - o, by omega, hbe, hplace, rfl⟩)
  · rename_i h
    have hnone : ((passBytes a).map fun x => (x.1 % 64, x.2)).lookup k = none := by
      rw [List.lookup_eq_none_iff]
      intro y hy
      obtain ⟨x, hx, rfl⟩ := List.mem_map.1 hy
      obtain ⟨j, hj, hbe, haddr, -⟩ := mem_passBytes.1 hx
      simp only [bne_iff_ne, ne_eq]
      rintro rfl
      have hplace : x.1 % 64 - o = j := by omega
      exact h ⟨by omega, by omega, by rw [hplace]; exact hbe⟩
    simp [byteData, blockOf, hnone]

/-- An access that does not merge enters the queue with all its MOPs at the young end (R50). -/
theorem admitMops_of_apart {s : State} {a : Access}
    (h : ∀ m tail, (accessMops s a).head? = some m → ¬ TailTakes s.oq tail m) :
    admitMops a (setRequest none s)
      = { s with
          hsp := { s.hsp with request := none }
          oq :=
            { s.oq with
              mops := s.oq.mops ++ accessMops s a
              nextId := s.oq.nextId + (accessMops s a).length } } := by
  have hqueue : queueAfter (setRequest none s) a = s.oq.mops ++ accessMops s a := (queueAfter_of_apart h).1
  rw [admitMops, hqueue]
  rfl

theorem pushEntry_of_read {a : Access} (h : a.write = false) (n : Nat) (error : Bool) (s : State) :
    pushEntry a n error s
      = { s with
          hsp :=
            { s.hsp with
              entries := s.hsp.entries ++ [{ id := s.hsp.nextId, word := 0#32, outstanding := n, error := error }]
              nextId := s.hsp.nextId + 1 } } := by
  simp [pushEntry, h]

/-- A READ merges into no tail (R53). -/
theorem not_tailTakes_read {oq : OrderQueue} {tail m : Mop} {link : Nat} {map : ReadMap}
    (h : m.content = .read link map) : ¬ TailTakes oq tail m := by
  rintro ⟨-, -, -, ⟨d, hd⟩, -⟩
  cases h.symm.trans hd

/-- Settles O23: a pass-through write lies in one block, and its MOP is the one described. -/
theorem passThroughWriteCreatesOneMop : Obligations.PassThroughWriteCreatesOneMop := by
  intro a s hreset hwrite hnone
  have hmops := accessMops_of_matchesNone hnone
  rw [passParts, if_pos hwrite] at hmops
  have htaken := takeAccess_passThrough (disposition_of_matchesNone hnone)
  rw [pushEntry_of_write hwrite] at htaken
  refine ⟨fun hbe => ?_, fun hbe hroom m o ho hid hblock hmask hcontent hwindow hhost hstate hapart => ?_⟩
  · have hempty : accessMops s a = [] := by
      rw [hmops, (passBytes_eq_nil_iff a).2 hbe]
      rfl
    rw [exec_taken hreset (admitted_of_no_mops hempty (by simp [hwrite])), htaken,
      admitMops_of_apart (by simp [hempty]), hempty, List.append_nil]
    rfl
  · have hone : accessMops s a = [m] := by
      rw [hmops, plainParts_eq, mopsOfParts_of_one_block (mt (passBytes_eq_nil_iff a).1 hbe) (passBytes_block a),
        byteMask_passBytes, byteData_passBytes ho, ← ho, ← hid, ← hblock, ← hmask, ← hcontent, ← hwindow, ← hhost,
        ← hstate]
    have hadmitted : Admitted s a := ⟨.inr (by rw [hone]; exact hroom), by simp [hwrite]⟩
    have hapart' : ∀ x tail, (accessMops s a).head? = some x → ¬ TailTakes s.oq tail x := by
      rw [hone]
      rintro x tail ⟨⟩
      exact hapart tail
    rw [exec_taken hreset hadmitted, htaken, admitMops_of_apart hapart', hone]
    rfl

/-- Settles O24: the four bytes of a word lie in one block. -/
theorem passThroughReadCreatesMopAndEntry : Obligations.PassThroughReadCreatesMopAndEntry := by
  intro a s hreset hread hnone hroom hentries o ho
  have hone := accessMops_of_matchesNone hnone
  rw [passParts, if_neg (by simp [hread]), byteReadParts_eq,
    mopsOfParts_of_one_block (passSources_ne_nil a) (passSources_block a), byteMask_passSources,
    mapEntries_passSources ho, ← ho] at hone
  have hadmitted : Admitted s a := ⟨.inr (by rw [hone]; exact hroom), fun _ => hentries⟩
  have hapart : ∀ m tail, (accessMops s a).head? = some m → ¬ TailTakes s.oq tail m := by
    rw [hone]
    rintro m tail ⟨⟩
    exact not_tailTakes_read rfl
  rw [exec_taken hreset hadmitted, takeAccess_passThrough (disposition_of_matchesNone hnone),
    admitMops_of_apart hapart, pushEntry_of_read hread, hone]
  rfl

/-! ### Served accesses -/

theorem accessMops_served {s : State} {i : Fin 16} {a : Access} (hd : disposition s.wt a = .transformed i) :
    accessMops s a
      = mopsOfParts s.oq.nextId (some { index := i, generation := (s.window i).generation }) (a.addr ++ 0#2)
          (accessParts s a) := by
  simp only [accessMops, accessTag, hd, ofNat_accessAddr]
  rfl

theorem accessParts_served {s : State} {i : Fin 16} {a : Access} {d : Surface}
    (hd : disposition s.wt a = .transformed i) (hsurface : s.surface (s.window i).staged.surface = some d) :
    accessParts s a = windowParts (s.window i) d s.hsp.nextId a := by
  have h : s.st[s.wt.windows[i.val].staged.surface.val] = some d := hsurface
  simp only [accessParts, hd, h]
  rfl

/-- A colour at a format's width is the number of its low bytes (R3). -/
theorem colourAt_toNat (f : PixelFormat) (c : Word) : (colourAt f c).toNat = c.toNat % 256 ^ f.bpp := by
  cases f with
  | p8 => exact Nat.and_two_pow_sub_one_eq_mod c.toNat 8
  | p16 => exact Nat.and_two_pow_sub_one_eq_mod c.toNat 16
  | p32 => exact (Nat.mod_eq_of_lt c.isLt).symm

theorem colourAt_eq (f : PixelFormat) (c : Word) : colourAt f c = BitVec.ofNat 32 (c.toNat % 256 ^ f.bpp) := by
  rw [← colourAt_toNat, BitVec.ofNat_toNat, BitVec.setWidth_eq]

/-- A served access that does not merge leaves its MOPs in the queue, the window's counts higher and a read's entry
(R50, R51, R54). -/
theorem exec_served {s : State} {i : Fin 16} {a : Access} (hreset : s.resetN = true)
    (hd : disposition s.wt a = .transformed i) (hadmitted : Admitted s a)
    (hapart : ∀ m tail, (accessMops s a).head? = some m → ¬ TailTakes s.oq tail m) :
    exec (.requestHandshake (some a)) s
      = .next
          { s.withWindow i
              { s.window i with
                inFlight := (s.window i).inFlight + (accessMops s a).length
                counters :=
                  { (s.window i).counters with accepted := min 65535 ((s.window i).counters.accepted + 1) } } with
            oq :=
              { s.oq with
                mops := s.oq.mops ++ accessMops s a
                nextId := s.oq.nextId + (accessMops s a).length }
            hsp :=
              if a.write then { s.hsp with request := none }
              else
                { s.hsp with
                  request := none
                  entries :=
                    s.hsp.entries
                      ++ [ { id := s.hsp.nextId
                             word := 0#32
                             outstanding := (accessMops s a).length
                             error := false } ]
                  nextId := s.hsp.nextId + 1 } } := by
  rw [exec_taken hreset hadmitted, takeAccess_served hd, (queueAfter_of_apart hapart).2, admitMops_of_apart hapart]
  cases hwrite : a.write with
  | true =>
    rw [pushEntry_of_write hwrite]
    rfl
  | false =>
    rw [pushEntry_of_read hwrite]
    rfl

/-- Settles O27: the state by the claim of the window and the push of the entry, the MOPs by their parts. -/
theorem servedAccessEntersQueue : Obligations.ServedAccessEntersQueue := by
  intro a s i hreset hm hlive hserves
  have hd := disposition_of_served hm hlive hserves
  refine ⟨exec_served hreset hd, fun k m hk => ?_, fun d parts hsurface hparts => ?_⟩
  · rw [accessMops_served hd] at hk
    exact mopsOfParts_getElem? _ _ _ _ _ _ hk
  · rw [accessMops_served hd, mopsOfParts_map, accessParts_served hd hsurface, hparts, ← colourAt_eq]
    rfl

end Sys2Proof.Proofs
end

section
/-! PROOF. What the writes of each kind draw, that the parts of every served access fit the address space, and what the
MOPs of a write carry into the queue. -/

namespace Sys2Proof.Proofs

open Sys2Proof.Machine Sys2Proof.Safety Sys2Proof.Claims

/-! ### The drawn bytes by the rules -/

/-- The colour of a pattern bit is a staged colour at the surface's pixel width (R62, R63). -/
theorem patternColour_eq_some {w : Staged} {f : PixelFormat} {bit : Bool} {c : Word} :
    patternColour w f bit = some c
      ↔ ∃ colour, (if bit then colour = w.foreground else w.background = some colour) ∧ colourAt f colour = c := by
  cases bit <;> simp [patternColour]

/-- The bytes of a pixel are the low bytes of its colour (R2, R3). -/
theorem wordByte_colourAt {f : PixelFormat} (c : Word) {k : Nat} (hk : k < f.bpp) :
    wordByte (colourAt f c) k = leByte c k := by
  have hsplit : 256 ^ f.bpp = 256 ^ k * 256 ^ (f.bpp - k) := by
    rw [← Nat.pow_add]
    congr 1
    omega
  apply BitVec.eq_of_toNat_eq
  rw [wordByte_eq_leByte, leByte, leByte, BitVec.toNat_ofNat, BitVec.toNat_ofNat, colourAt_toNat, hsplit,
    Nat.mod_mul_right_div_self]
  exact Nat.mod_mod_of_dvd _ (dvd_pow_self 256 (by omega))

theorem mem_expandBytes {w : Window} {d : Surface} {a : Access} {x : Nat} {v : Byte} :
    (x, v) ∈ expandBytes w d a ↔ DrawnExpand w d a x v := by
  simp only [expandBytes, List.mem_flatMap, List.mem_range]
  constructor
  · rintro ⟨m, hm, hmem⟩
    obtain ⟨hbe, p, c, hp, hc, hbyte⟩ := mem_expandPixel.1 hmem
    obtain ⟨colour, hcolour, rfl⟩ := patternColour_eq_some.1 hc
    obtain ⟨k, hk, hx, hv⟩ := mem_pixelBytes.1 hbyte
    rw [wordByte_colourAt colour hk] at hv
    exact ⟨m, p, k, colour, hm, hbe, (groupPixel_iff w d a m p).1 hp, hcolour, hk, hx, hv⟩
  · rintro ⟨m, p, k, colour, hm, hbe, hp, hcolour, hk, hx, hv⟩
    rw [← wordByte_colourAt colour hk] at hv
    exact ⟨m, hm, mem_expandPixel.2 ⟨hbe, p, _, (groupPixel_iff w d a m p).2 hp,
      patternColour_eq_some.2 ⟨colour, hcolour, rfl⟩, mem_pixelBytes.2 ⟨k, hk, hx, hv⟩⟩⟩

/-! ### Parts below the top of the address space -/

/-- Parts with bytes, in ascending blocks below the top of the address space. -/
def PartsFit (parts : List BlockPart) : Prop :=
  parts.Pairwise (fun p q => p.block < q.block) ∧ ∀ p ∈ parts, p.mask ≠ 0#64 ∧ 64 * p.block < 2 ^ 32

theorem partsFit_of_cut {α : Type} {items : List (Nat × α)} {parts : List BlockPart} (h : CutAtBlocks items parts)
    (hbound : ∀ x ∈ items, x.1 < 2 ^ 32) : PartsFit parts := by
  obtain ⟨hblocks, -, hparts⟩ := h
  refine ⟨hblocks, fun p hp => ?_⟩
  obtain ⟨hmask, x, hx, hblock⟩ := hparts p hp
  have := hbound x hx
  exact ⟨hmask, by omega⟩

/-- A byte of a pixel of a sound surface lies below the top of the address space (R5). -/
theorem pixelByte_lt {w : Window} {d : Surface} {a : Access} {m p k : Nat} (hd : SurfaceSound d)
    (hp : PixelAddress w d a m p) (hk : k < d.format.bpp) : p + k < 2 ^ 32 := by
  obtain ⟨-, hlast⟩ := pixelAddress_sound hd hp
  omega

theorem pixelAddress_lt {w : Window} {d : Surface} {a : Access} {m p : Nat} (hd : SurfaceSound d)
    (hp : PixelAddress w d a m p) : p < 2 ^ 32 := pixelByte_lt hd hp (bpp_pos _)

/-- The parts of every access on a sound surface fit the address space (R5, R49). -/
theorem windowParts_fit (w : Window) {d : Surface} (link : Nat) (a : Access) (hd : SurfaceSound d) :
    PartsFit (windowParts w d link a) := by
  have hoffset : ∀ k, k % d.format.bpp < d.format.bpp := fun k => Nat.mod_lt _ (bpp_pos _)
  unfold windowParts
  cases w.staged.kind with
  | direct =>
    by_cases hwrite : a.write = true
    · simp only [hwrite, if_true]
      refine partsFit_of_cut (plainParts_spec (directBytes_ascend w d a)).1 fun x hx => ?_
      obtain ⟨k, p, -, -, hp, hx, -⟩ := mem_directBytes.1 hx
      exact hx ▸ pixelByte_lt hd hp (hoffset k)
    · simp only [hwrite]
      refine partsFit_of_cut (byteReadParts_spec link (directSources_ascend w d a)).1 fun x hx => ?_
      obtain ⟨-, p, hp, hx⟩ := mem_directSources.1 hx
      exact hx ▸ pixelByte_lt hd hp (hoffset _)
  | expand =>
    refine partsFit_of_cut (plainParts_spec (expandBytes_ascend w d a)).1 fun x hx => ?_
    obtain ⟨m, p, k, colour, -, -, hp, -, hk, hx, -⟩ := mem_expandBytes.1 hx
    exact hx ▸ pixelByte_lt hd hp hk
  | coverage =>
    refine partsFit_of_cut (coverageParts_spec _ (coveragePixels_ascend w d a)).1 fun x hx => ?_
    obtain ⟨m, -, -, hp, -⟩ := mem_coveragePixels.1 hx
    exact pixelAddress_lt hd hp
  | matchKey =>
    refine partsFit_of_cut (matchReadParts_spec link (matchSources_ascend w d a)).1 fun x hx => ?_
    obtain ⟨-, hp⟩ := mem_matchSources.1 hx
    exact pixelAddress_lt hd hp

/-! ### MOPs of parts that fit -/

/-- The MOP acts on what the part describes: its block, mask and content (R50). -/
def ActsOn (m : Mop) (p : BlockPart) : Prop :=
  m.block.toNat = 64 * p.block ∧ m.mask = p.mask ∧ m.content = p.content

theorem actsOn_of_fields {m : Mop} {p : BlockPart} (hfit : 64 * p.block < 2 ^ 32)
    (h : (m.block, m.mask, m.content) = (BitVec.ofNat 32 (64 * p.block), p.mask, p.content)) : ActsOn m p := by
  simp only [Prod.mk.injEq] at h
  obtain ⟨hblock, hmask, hcontent⟩ := h
  exact ⟨by rw [hblock, BitVec.toNat_ofNat, Nat.mod_eq_of_lt hfit], hmask, hcontent⟩

section Placed

variable {parts : List BlockPart} {id : Nat} {tag : Option WindowTag} {host : Word}

/-- Each MOP acts on a part. -/
theorem exists_part_of_mop (h : PartsFit parts) : ∀ m ∈ mopsOfParts id tag host parts, ∃ p ∈ parts, ActsOn m p := by
  intro m hm
  have hfields := List.mem_map_of_mem (f := fun m : Mop => (m.block, m.mask, m.content)) hm
  rw [mopsOfParts_map] at hfields
  obtain ⟨p, hp, heq⟩ := List.mem_map.1 hfields
  exact ⟨p, hp, actsOn_of_fields (h.2 p hp).2 heq.symm⟩

/-- A MOP acts on each part. -/
theorem exists_mop_of_part (h : PartsFit parts) : ∀ p ∈ parts, ∃ m ∈ mopsOfParts id tag host parts, ActsOn m p := by
  intro p hp
  have hfields := List.mem_map_of_mem
    (f := fun p : BlockPart => (BitVec.ofNat 32 (64 * p.block), p.mask, p.content)) hp
  rw [← mopsOfParts_map tag host parts id] at hfields
  obtain ⟨m, hm, heq⟩ := List.mem_map.1 hfields
  exact ⟨m, hm, actsOn_of_fields (h.2 p hp).2 heq⟩

/-- The MOPs stand in ascending blocks (R49). -/
theorem mopsOfParts_blocks_ascend (h : PartsFit parts) :
    (mopsOfParts id tag host parts).Pairwise fun m n => m.block.toNat < n.block.toNat := by
  have hblocks : (mopsOfParts id tag host parts).map Mop.block
      = parts.map fun p => BitVec.ofNat 32 (64 * p.block) := by
    have hfields := congrArg (List.map Prod.fst) (mopsOfParts_map tag host parts id)
    rwa [List.map_map, List.map_map] at hfields
  rw [← List.pairwise_map (f := Mop.block) (R := fun x y => x.toNat < y.toNat), hblocks, List.pairwise_map]
  refine List.Pairwise.imp_of_mem (fun {p q} hp hq hlt => ?_) h.1
  have hp := (h.2 p hp).2
  have hq := (h.2 q hq).2
  simp only [BitVec.toNat_ofNat]
  omega

theorem mopsOfParts_aligned (h : PartsFit parts) :
    ∀ m ∈ mopsOfParts id tag host parts, m.block.toNat % 64 = 0 ∧ m.mask ≠ 0#64 := by
  intro m hm
  obtain ⟨p, hp, hblock, hmask, -⟩ := exists_part_of_mop h m hm
  exact ⟨by omega, hmask ▸ (h.2 p hp).1⟩

/-- There is a MOP for the block of each item (R49). -/
theorem exists_mop_of_item {α : Type} {items : List (Nat × α)} (hcut : CutAtBlocks items parts) (h : PartsFit parts)
    {x : Nat} {v : α} (hx : (x, v) ∈ items) :
    ∃ m ∈ mopsOfParts id tag host parts, m.block.toNat = x / 64 * 64 := by
  obtain ⟨p, hp, hitem⟩ := hcut.2.1 _ hx
  obtain ⟨m, hm, hblock, -⟩ := exists_mop_of_part h p hp
  exact ⟨m, hm, by rw [hblock, hitem, Nat.mul_comm]⟩

end Placed

/-! ### Writes of final bytes -/

/-- The MOPs of a run of final bytes are PLAIN_WRITEs that together hold exactly these bytes (R49). -/
theorem plainMops_carry {bytes : List (Nat × Byte)} (hascend : BytesAscend bytes) (hfit : PartsFit (plainParts bytes))
    (id : Nat) (tag : Option WindowTag) (host : Word) :
    (∀ m ∈ mopsOfParts id tag host (plainParts bytes), ∃ data, m.content = .plain data)
      ∧ ∀ x v, CarriesByte (mopsOfParts id tag host (plainParts bytes)) x v ↔ (x, v) ∈ bytes := by
  obtain ⟨hcut, hparts⟩ := plainParts_spec hascend
  refine ⟨fun m hm => ?_, fun x v => ⟨?_, fun hmem => ?_⟩⟩
  · obtain ⟨p, hp, -, -, hcontent⟩ := exists_part_of_mop hfit m hm
    exact ⟨_, hcontent.trans (hparts p hp).2⟩
  · rintro ⟨m, hm, data, hdata, k, hbit, rfl, rfl⟩
    obtain ⟨p, hp, hblock, hmask, hcontent⟩ := exists_part_of_mop hfit m hm
    obtain ⟨hpmask, hpcontent⟩ := hparts p hp
    obtain rfl : data = byteData (itemsIn p.block bytes) := by
      rw [hcontent, hpcontent, MopContent.plain.injEq] at hdata
      exact hdata.symm
    rw [hmask, hpmask, byteMask_getLsbD _ _ k.isLt] at hbit
    obtain ⟨v, hv⟩ := hbit
    rwa [hblock, byteData_getElem hascend hv]
  · obtain ⟨p, hp, hitem⟩ := hcut.2.1 _ hmem
    obtain ⟨m, hm, hblock, hmask, hcontent⟩ := exists_mop_of_part (id := id) (tag := tag) (host := host) hfit p hp
    obtain ⟨hpmask, hpcontent⟩ := hparts p hp
    have hlt : x % 64 < 64 := Nat.mod_lt _ (by decide)
    have haddr : x = 64 * p.block + x % 64 := by simp only at hitem; omega
    have hin : (64 * p.block + x % 64, v) ∈ bytes := by rwa [← haddr]
    refine ⟨m, hm, _, hcontent.trans hpcontent, ⟨x % 64, hlt⟩, ?_, by rw [hblock]; exact haddr,
      (byteData_getElem hascend (k := ⟨x % 64, hlt⟩) hin).symm⟩
    rw [hmask, hpmask]
    exact (byteMask_getLsbD bytes _ hlt).2 ⟨v, hin⟩

/-! ### COVERAGE writes -/

theorem coverageContent_plain {f : PixelFormat} {fg : Word} {pixels : List (Nat × Nat)} (h : ∀ x ∈ pixels, x.2 = 15) :
    coverageContent f fg pixels = .plain (blockOf (pixels.flatMap fun x => pixelBytes f (x.1 % 64) fg)) :=
  if_pos (List.all_eq_true.2 fun x hx => decide_eq_true (h x hx))

theorem coverageContent_blend {f : PixelFormat} {fg : Word} {pixels : List (Nat × Nat)}
    (h : ∃ x ∈ pixels, x.2 ≠ 15) :
    coverageContent f fg pixels = .blend (pixels.map fun x => (x.1 % 64, x.2)) fg f := by
  obtain ⟨x, hx, hne⟩ := h
  exact if_neg fun hall => hne (of_decide_eq_true (List.all_eq_true.1 hall x hx))

/-- The pixels of one block by their offsets in it (R67). -/
def blockPixels (b : Nat) (pixels : List (Nat × Nat)) : List (Nat × Nat) :=
  (itemsIn b pixels).map fun x => (x.1 % 64, x.2)

theorem mem_blockPixels {b o c : Nat} {pixels : List (Nat × Nat)} :
    (o, c) ∈ blockPixels b pixels ↔ o < 64 ∧ (64 * b + o, c) ∈ pixels := by
  rw [blockPixels, List.mem_map]
  constructor
  · rintro ⟨x, hx, heq⟩
    cases heq
    obtain ⟨hmem, hblock⟩ := mem_itemsIn.1 hx
    have haddr : 64 * b + x.1 % 64 = x.1 := by omega
    exact ⟨Nat.mod_lt _ (by decide), by rwa [haddr]⟩
  · rintro ⟨ho, hmem⟩
    exact ⟨_, mem_itemsIn.2 ⟨hmem, by simp only; omega⟩, Prod.ext (by simp only; omega) rfl⟩

theorem blockPixels_ascend {f : PixelFormat} {pixels : List (Nat × Nat)} (h : PixelsAscend f pixels) (b : Nat) :
    PixelsAscend f (blockPixels b pixels) := by
  refine List.pairwise_map.2 (List.Pairwise.imp_of_mem (fun {x y} hx hy hlt => ?_) (h.sublist List.filter_sublist))
  have hx := (mem_itemsIn.1 hx).2
  have hy := (mem_itemsIn.1 hy).2
  simp only
  omega

/-- A full block of a COVERAGE write holds the foreground at every pixel (R66). -/
theorem blockByte_fullCoverage {f : PixelFormat} (c : Word) {pixels : List (Nat × Nat)} (h : PixelsAscend f pixels)
    (hin : PixelsInBlocks f pixels) {b o cov k : Nat} (hmem : (64 * b + o, cov) ∈ pixels) (ho : o < 64)
    (hk : k < f.bpp) :
    blockByte (blockOf ((itemsIn b pixels).flatMap fun x => pixelBytes f (x.1 % 64) (colourAt f c))) (o + k)
      = leByte c k := by
  have hfits := hin _ hmem
  have hoffset : o + k < 64 := by simp only at hfits; omega
  have hlookup := lookup_pixels (fun _ => colourAt f c) (blockPixels_ascend h b) _ (mem_blockPixels.2 ⟨ho, hmem⟩) k hk
  rw [blockPixels, List.flatMap_map] at hlookup
  rw [blockByte_blockOf _ hoffset, hlookup, Option.getD_some, wordByte_colourAt c hk]

/-- The MOPs of a COVERAGE write: their masks, and by the coverage values of the block final bytes or a pixel list (R49,
R66, R67). -/
theorem coverageMops_carry {f : PixelFormat} (c : Word) {pixels : List (Nat × Nat)} (h : PixelsAscend f pixels)
    (hin : PixelsInBlocks f pixels) (hfit : PartsFit (coverageParts f (colourAt f c) pixels)) {id : Nat}
    {tag : Option WindowTag} {host : Word} {m : Mop}
    (hm : m ∈ mopsOfParts id tag host (coverageParts f (colourAt f c) pixels)) :
    (∀ k < 64, m.mask.getLsbD k = true ↔
        ∃ x ∈ pixels, x.1 ≤ m.block.toNat + k ∧ m.block.toNat + k < x.1 + f.bpp)
      ∧ ((∀ x ∈ pixels, x.1 / 64 * 64 = m.block.toNat → x.2 = 15) →
          ∃ data : Block, m.content = .plain data
            ∧ ∀ x ∈ pixels, x.1 / 64 * 64 = m.block.toNat → ∀ k < f.bpp,
                blockByte data (x.1 - m.block.toNat + k) = leByte c k)
      ∧ ((∃ x ∈ pixels, x.1 / 64 * 64 = m.block.toNat ∧ x.2 ≠ 15) →
          ∃ list, m.content = .blend list (colourAt f c) f ∧ PixelsAscend f list
            ∧ ∀ o v, (o, v) ∈ list ↔ o < 64 ∧ (m.block.toNat + o, v) ∈ pixels) := by
  obtain ⟨p, hp, hblock, hmask, hcontent⟩ := exists_part_of_mop hfit m hm
  obtain ⟨hpmask, hpcontent⟩ := (coverageParts_spec (colourAt f c) h).2 p hp
  rw [hblock, hmask, hcontent, hpmask, hpcontent]
  refine ⟨fun k hk => pixelMask_getLsbD hin _ hk, fun hfull => ?_, fun hpart => ?_⟩
  · refine ⟨_, coverageContent_plain fun x hx => ?_, fun x hx hxblock k hk => ?_⟩
    · obtain ⟨hmem, hxblock⟩ := mem_itemsIn.1 hx
      exact hfull x hmem (by omega)
    · have haddr : x.1 = 64 * p.block + (x.1 - 64 * p.block) := by omega
      exact blockByte_fullCoverage c h hin (cov := x.2) (by rwa [← haddr]) (by omega) hk
  · obtain ⟨x, hx, hxblock, hne⟩ := hpart
    exact ⟨_, coverageContent_blend ⟨x, mem_itemsIn.2 ⟨hx, by omega⟩, hne⟩, blockPixels_ascend h p.block,
      fun o v => mem_blockPixels⟩

/-! ### Served accesses on a sound surface -/

/-- A served access on a sound surface: the disposition, and its MOPs from the parts of its window (R40, R50). -/
theorem servedOn_mops {s : State} {i : Fin 16} {a : Access} {d : Surface} (h : ServedOn s i a d) :
    disposition s.wt a = .transformed i ∧ PartsFit (windowParts (s.window i) d s.hsp.nextId a)
      ∧ accessMops s a
          = mopsOfParts s.oq.nextId (some { index := i, generation := (s.window i).generation }) (a.addr ++ 0#2)
              (windowParts (s.window i) d s.hsp.nextId a) := by
  obtain ⟨hm, hlive, hserves, hsurface, hd⟩ := h
  have hdisp := disposition_of_served hm hlive hserves
  exact ⟨hdisp, windowParts_fit _ _ a hd, by rw [accessMops_served hdisp, accessParts_served hdisp hsurface]⟩

/-- Settles O29: the drawn bytes and covered pixels by the rules of each kind, and the MOPs by their cut. -/
theorem writeTransformsDrawPixels : Obligations.WriteTransformsDrawPixels := by
  refine ⟨fun w d a => ⟨fun x v => mem_directBytes, fun x v => mem_expandBytes, fun x c => mem_coveragePixels⟩,
    fun f fg pixels => ⟨coverageContent_plain, coverageContent_blend⟩, ?_⟩
  rintro a s i w d hreset hwrite hserved rfl
  obtain ⟨hdisp, hfit, hmops⟩ := servedOn_mops hserved
  refine ⟨fun hadmitted hapart => ⟨_, exec_served hreset hdisp hadmitted hapart, rfl⟩, ?_⟩
  obtain ⟨-, -, -, -, hd⟩ := hserved
  rw [hmops]
  refine ⟨mopsOfParts_blocks_ascend hfit, mopsOfParts_aligned hfit, fun hkind => ?_, fun hkind => ?_, fun hkind => ?_⟩
  · simp only [windowParts, hkind, hwrite, if_true] at hfit ⊢
    obtain ⟨hplain, hcarry⟩ := plainMops_carry (directBytes_ascend (s.window i) d a) hfit _ _ _
    exact ⟨hplain, fun x v => (hcarry x v).trans mem_directBytes⟩
  · simp only [windowParts, hkind] at hfit ⊢
    obtain ⟨hplain, hcarry⟩ := plainMops_carry (expandBytes_ascend (s.window i) d a) hfit _ _ _
    exact ⟨hplain, fun x v => (hcarry x v).trans mem_expandBytes⟩
  · simp only [windowParts, hkind] at hfit ⊢
    have hascend := coveragePixels_ascend (s.window i) d a
    refine ⟨fun x c hx => exists_mop_of_item (coverageParts_spec _ hascend).1 hfit (mem_coveragePixels.2 hx), ?_⟩
    rintro m b hm rfl
    obtain ⟨hmask, hfull, hpart⟩ := coverageMops_carry _ hascend (coveragePixels_inBlocks a hd) hfit hm
    simp only [Prod.forall, Prod.exists, mem_coveragePixels] at hmask hfull hpart
    refine ⟨hmask, hfull, fun hne => ?_⟩
    obtain ⟨list, hcontent, hlist, hmem⟩ := hpart hne
    exact ⟨list, _, hcontent, colourAt_toNat _ _, hlist, hmem⟩

end Sys2Proof.Proofs
end

section
/-! PROOF. What the reads of each kind read, what their MOPs ask for, and where the data lands in the response word. -/

namespace Sys2Proof.Proofs

open Sys2Proof.Machine Sys2Proof.Safety Sys2Proof.Claims

/-! ### Places of a response word -/

/-- A byte put at result byte `k` is found there, and every other result byte stays (R79). -/
theorem leByte_setResultByte (w : Word) (b : Byte) {j k : Nat} (hj : j < 4) (hk : k < 4) :
    leByte (setResultByte w k b) j = if j = k then b else leByte w j := by
  have hones : ∀ n, (0xFF#32).getLsbD n = decide (n < 8) := fun n => by
    rw [show 0xFF#32 = (BitVec.allOnes 8).setWidth 32 by decide, BitVec.getLsbD_setWidth, BitVec.getLsbD_allOnes]
    by_cases hn : n < 8
    · simp [hn, Nat.lt_trans hn (by decide : 8 < 32)]
    · simp [hn]
  rw [← wordByte_eq_leByte, ← wordByte_eq_leByte]
  refine BitVec.eq_of_getLsbD_eq fun i hi => ?_
  simp only [wordByte, setResultByte, BitVec.getLsbD_extractLsb', BitVec.getLsbD_or, BitVec.getLsbD_and,
    BitVec.getLsbD_not, BitVec.getLsbD_shiftLeft, BitVec.getLsbD_setWidth, hones, hi, decide_true, Bool.true_and,
    (by omega : 8 * j + i < 32)]
  obtain hlt | rfl | hgt := Nat.lt_trichotomy j k
  · rw [if_neg (by omega)]
    simp [(by omega : 8 * j + i < 8 * k), hi]
  · rw [if_pos rfl]
    simp [hi, (by omega : i < 32)]
  · rw [if_neg (by omega)]
    have hbeyond : b.getLsbD (8 * j + i - 8 * k) = false := BitVec.getLsbD_of_ge _ _ (by omega)
    have hkept : decide (8 * j + i - 8 * k < 8) = false := decide_eq_false (by omega)
    simp only [hkept, hbeyond, BitVec.getLsbD_extractLsb', hi, Bool.and_false, Bool.not_false, Bool.and_true,
      Bool.or_false, decide_true, Bool.true_and]

/-- A bit put at result bit `k` is found there, and every other result bit stays (R80). -/
theorem getLsbD_setResultBit (w : Word) (v : Bool) {j k : Nat} (hj : j < 32) (hk : k < 32) :
    (setResultBit w k v).getLsbD j = if j = k then v else w.getLsbD j := by
  have hbit : ∀ n, (if v then 1#32 else 0#32).getLsbD n = (v && decide (n = 0)) := fun n => by
    cases v <;> simp [BitVec.getLsbD_one]
  simp only [setResultBit, BitVec.getLsbD_or, BitVec.getLsbD_and, BitVec.getLsbD_not, BitVec.getLsbD_shiftLeft, hbit,
    hj, BitVec.getLsbD_one, decide_true, Bool.true_and]
  obtain hlt | rfl | hgt := Nat.lt_trichotomy j k
  · simp [hlt, Nat.ne_of_lt hlt]
  · simp
  · have hkept : decide (j - k = 0) = false := decide_eq_false (by omega)
    simp only [hkept, if_neg (Nat.ne_of_gt hgt), Bool.and_false, Bool.not_false, Bool.and_true, Bool.or_false]

/-- Values put one after another at distinct places of a word: each place holds its own value, and a place with none
stays (R79, R80). -/
theorem placed_at {β : Type} {n : Nat} {set : Word → Nat → β → Word} {get : Word → Nat → β}
    (hset : ∀ w b, ∀ j < n, ∀ k < n, get (set w k b) j = if j = k then b else get w j) (val : Nat → β) {k : Nat}
    (hk : k < n) : ∀ (entries : List (Nat × Nat)) (w : Word), (entries.map Prod.fst).Nodup → (∀ e ∈ entries, e.1 < n) →
      (∀ o, (k, o) ∈ entries → get (entries.foldl (fun w e => set w e.1 (val e.2)) w) k = val o)
        ∧ ((∀ o, (k, o) ∉ entries) → get (entries.foldl (fun w e => set w e.1 (val e.2)) w) k = get w k)
  | [], w, _, _ => ⟨fun _ ho => (List.not_mem_nil ho).elim, fun _ => rfl⟩
  | e :: rest, w, hdistinct, hbound => by
    rw [List.map_cons, List.nodup_cons] at hdistinct
    obtain ⟨hfirst, hrest⟩ := hdistinct
    obtain ⟨hplaced, hstays⟩ := placed_at hset val hk rest (set w e.1 (val e.2)) hrest
      fun x hx => hbound x (List.mem_cons_of_mem _ hx)
    have hhead := hset w (val e.2) k hk e.1 (hbound e List.mem_cons_self)
    rw [List.foldl_cons]
    refine ⟨fun o ho => ?_, fun hno => ?_⟩
    · obtain rfl | hmem := List.mem_cons.1 ho
      · rw [hstays fun o' ho' => hfirst (List.mem_map.2 ⟨_, ho', rfl⟩), hhead, if_pos rfl]
      · exact hplaced o hmem
    · have hne : k ≠ e.1 := by
        rintro rfl
        exact hno e.2 List.mem_cons_self
      rw [hstays fun o ho => hno o (List.mem_cons_of_mem _ ho), hhead, if_neg hne]

/-- Bit `n` of a colour at a format's width (R3). -/
theorem colourAt_getLsbD (f : PixelFormat) (c : Word) (n : Nat) :
    (colourAt f c).getLsbD n = (decide (n < 8 * f.bpp) && c.getLsbD n) := by
  rw [← BitVec.testBit_toNat, colourAt_toNat, show 256 ^ f.bpp = 2 ^ (8 * f.bpp) by rw [Nat.pow_mul],
    Nat.testBit_mod_two_pow, BitVec.testBit_toNat]

/-- The match bit says that the pixel agrees with the key at every bit of the key mask (R80). -/
theorem matchBit_iff (f : PixelFormat) (key keyMask : Word) (d : Block) (o : Nat) :
    matchBit f key keyMask (pixelAt f d o) = true
      ↔ ∀ n < 8 * f.bpp, keyMask.getLsbD n = true → (pixelValue f d o).testBit n = key.getLsbD n := by
  have hwidth : 8 * f.bpp ≤ 32 := by have := bpp_le_four f; omega
  rw [matchBit, decide_eq_true_eq, ← pixelAt_toNat]
  simp only [BitVec.testBit_toNat]
  constructor
  · intro h n hn hmask
    have hbit := congrArg (fun v : Word => v.getLsbD n) h
    simpa [colourAt_getLsbD, hn, hmask] using hbit
  · intro h
    refine BitVec.eq_of_getLsbD_eq fun n _ => ?_
    simp only [BitVec.getLsbD_and, colourAt_getLsbD]
    by_cases hn : n < 8 * f.bpp
    · cases hmask : keyMask.getLsbD n with
      | false => simp
      | true => simp [hn, h n hn hmask]
    · simp [hn]

/-! ### Contribution maps -/

theorem mem_mapEntries {b r o : Nat} {sources : List (Nat × Nat)} :
    (r, o) ∈ mapEntries (itemsIn b sources) ↔ o < 64 ∧ (64 * b + o, r) ∈ sources := by
  rw [← mem_blockPixels, blockPixels, mapEntries, List.mem_map, List.mem_map]
  simp only [Prod.mk.injEq, and_comm]

/-- Result positions ascend in each map when they do over the whole read (R77). -/
theorem mapEntries_ascend {sources : List (Nat × Nat)} (h : sources.Pairwise fun x y => x.2 < y.2) (b : Nat) :
    (mapEntries (itemsIn b sources)).Pairwise fun x y => x.1 < y.1 :=
  List.pairwise_map.2 (h.sublist List.filter_sublist)

/-- The MOPs of a read of bytes: maps and masks (R77, R78). -/
theorem byteReadMops_carry {link : Nat} {sources : List (Nat × Nat)} (hascend : BytesAscend sources)
    (hfit : PartsFit (byteReadParts link sources)) {id : Nat} {tag : Option WindowTag} {host : Word} {m : Mop}
    (hm : m ∈ mopsOfParts id tag host (byteReadParts link sources)) :
    ∃ b, m.block.toNat = 64 * b ∧ m.content = .read link (.bytes (mapEntries (itemsIn b sources)))
      ∧ ∀ o < 64, m.mask.getLsbD o = true ↔ ∃ k, (k, o) ∈ mapEntries (itemsIn b sources) := by
  obtain ⟨p, hp, hblock, hmask, hcontent⟩ := exists_part_of_mop hfit m hm
  obtain ⟨hpmask, hpcontent⟩ := (byteReadParts_spec link hascend).2 p hp
  refine ⟨p.block, hblock, hcontent.trans hpcontent, fun o ho => ?_⟩
  rw [hmask, hpmask, byteMask_getLsbD sources _ ho]
  simp only [mem_mapEntries, ho, true_and]

/-- The MOPs of a read of pixels: maps and masks (R77, R78). -/
theorem matchReadMops_carry {link : Nat} {f : PixelFormat} {sources : List (Nat × Nat)}
    (hascend : PixelsAscend f sources) (hfit : PartsFit (matchReadParts link f sources)) {id : Nat}
    {tag : Option WindowTag} {host : Word} {m : Mop}
    (hm : m ∈ mopsOfParts id tag host (matchReadParts link f sources)) :
    ∃ b, m.block.toNat = 64 * b ∧ m.content = .read link (.bits (mapEntries (itemsIn b sources)))
      ∧ ∀ k < 64, m.mask.getLsbD k = true ↔
          ∃ n o, (n, o) ∈ mapEntries (itemsIn b sources) ∧ o ≤ k ∧ k < o + f.bpp := by
  obtain ⟨p, hp, hblock, hmask, hcontent⟩ := exists_part_of_mop hfit m hm
  obtain ⟨hpmask, hpcontent⟩ := (matchReadParts_spec link hascend).2 p hp
  refine ⟨p.block, hblock, hcontent.trans hpcontent, fun k hk => ?_⟩
  rw [hmask, hpmask, pixelMask, maskOf_getLsbD _ _ hk, mem_pixelOffsets]
  constructor
  · rintro ⟨x, hx, j, hj, rfl⟩
    exact ⟨x.2, x.1 % 64, List.mem_map_of_mem hx, by omega, by omega⟩
  · rintro ⟨n, o, hmem, hle, hlt⟩
    obtain ⟨x, hx, heq⟩ := List.mem_map.1 hmem
    cases heq
    exact ⟨x, hx, k - x.1 % 64, by omega, by omega⟩

/-- A served read brings READs only, so it does not merge (R50, R53). -/
theorem read_apart {s : State} {i : Fin 16} {a : Access} {d : Surface} (hread : a.write = false)
    (h : ServedOn s i a d) : ∀ m tail, (accessMops s a).head? = some m → ¬ TailTakes s.oq tail m := by
  obtain ⟨-, hfit, hmops⟩ := servedOn_mops h
  obtain ⟨-, -, hserves, -, -⟩ := h
  intro m tail hhead
  have hm := List.mem_of_mem_head? hhead
  rw [hmops] at hm
  obtain hkind | ⟨-, hwrite⟩ | ⟨hkind, -⟩ := hserves
  · simp only [windowParts, hkind, hread] at hfit hm
    obtain ⟨b, -, hcontent, -⟩ := byteReadMops_carry (directSources_ascend _ d a) hfit hm
    exact not_tailTakes_read hcontent
  · cases hread.symm.trans hwrite
  · simp only [windowParts, hkind] at hfit hm
    obtain ⟨b, -, hcontent, -⟩ := matchReadMops_carry (matchSources_ascend _ d a) hfit hm
    exact not_tailTakes_read hcontent

/-- Settles O31: the response word place by place, the sources by the rules of each kind, and the MOPs by their cut. -/
theorem readDataLandsAtItsPositions : Obligations.ReadDataLandsAtItsPositions := by
  refine ⟨fun entries data w hdistinct => ⟨fun hbound k hk => ?_, fun hbound f key keyMask k hk => ?_⟩,
    fun w d a => ⟨fun x k => mem_directSources, fun x n => mem_matchSources⟩, ?_⟩
  · exact placed_at (fun w b j hj k hk => leByte_setResultByte w b hj hk) (blockByte data) hk entries w hdistinct hbound
  · obtain ⟨hplaced, hstays⟩ := placed_at (fun w v j hj k hk => getLsbD_setResultBit w v hj hk)
      (fun o => matchBit f key keyMask (pixelAt f data o)) hk entries w hdistinct hbound
    exact ⟨fun o ho => (Bool.eq_iff_iff.1 (hplaced o ho)).trans (matchBit_iff f key keyMask data o), hstays⟩
  rintro a s i w d hreset hread hserved rfl
  obtain ⟨hdisp, hfit, hmops⟩ := servedOn_mops hserved
  refine ⟨fun hadmitted => ⟨_, exec_served hreset hdisp hadmitted (read_apart hread hserved), rfl⟩, ?_⟩
  rw [hmops]
  refine ⟨mopsOfParts_blocks_ascend hfit, fun hkind => ?_, fun hkind => ?_⟩
  · simp only [windowParts, hkind, hread] at hfit ⊢
    have hascend := directSources_ascend (s.window i) d a
    refine ⟨fun k x hx => exists_mop_of_item (byteReadParts_spec _ hascend).1 hfit (mem_directSources.2 hx),
      fun m hm => ?_⟩
    obtain ⟨b, hblock, hcontent, hmask⟩ := byteReadMops_carry hascend hfit hm
    refine ⟨_, hcontent, mapEntries_ascend ((directSources_pairwise _ d a).imp And.right) b, fun k o => ?_, by omega,
      hmask⟩
    rw [mem_mapEntries, mem_directSources, hblock]
  · simp only [windowParts, hkind] at hfit ⊢
    have hascend := matchSources_ascend (s.window i) d a
    refine ⟨fun n x hx => exists_mop_of_item (matchReadParts_spec _ hascend).1 hfit (mem_matchSources.2 hx),
      fun m hm => ?_⟩
    obtain ⟨b, hblock, hcontent, hmask⟩ := matchReadMops_carry hascend hfit hm
    refine ⟨_, hcontent, mapEntries_ascend ((matchSources_pairwise _ d a).imp And.right) b, fun n o => ?_, by omega,
      hmask⟩
    rw [mem_mapEntries, mem_matchSources, hblock]

end Sys2Proof.Proofs
end

section
/-! PROOF. Every step keeps each MOP's block address, mask, data and pixel list in shape: how data, masks and pixel
lists are made at the cut of an access, and what a merge and a combine make of them. -/

namespace Sys2Proof.Proofs

open Sys2Proof.Machine Sys2Proof.Safety Sys2Proof.Claims

/-! ### Content against a mask -/

/-- The data is 0 at every byte outside the mask (R60). -/
def DataInMask (mask : BitVec 64) (data : Block) : Prop :=
  ∀ k : Fin 64, mask.getLsbD k.val = false → data[k.val] = 0#8

/-- The content fits a byte mask: final data lies in it, and the pixels of a pixel list are exactly its bytes (R60,
R67). -/
def ContentFits (mask : BitVec 64) : MopContent → Prop
  | .plain data => DataInMask mask data
  | .blended data => DataInMask mask data
  | .blend pixels _ f =>
    ∀ k : Fin 64, mask.getLsbD k.val = true ↔ ∃ px ∈ pixels, px.1 ≤ k.val ∧ k.val < px.1 + f.bpp
  | .read _ _ => True

theorem mopBytesSound_iff (m : Mop) :
    MopBytesSound m ↔ m.mask ≠ 0#64 ∧ m.block.toNat % 64 = 0 ∧ ContentFits m.mask m.content := by
  unfold MopBytesSound
  cases m.content <;> exact Iff.rfl

/-- Data made of bytes whose offsets all lie in the mask is 0 outside it. -/
theorem dataInMask_blockOf {mask : BitVec 64} {bytes : List (Nat × Byte)}
    (h : ∀ x ∈ bytes, x.1 < 64 → mask.getLsbD x.1 = true) : DataInMask mask (blockOf bytes) := by
  intro k hk
  have hnone : bytes.lookup k.val = none := by
    rw [List.lookup_eq_none_iff]
    intro x hx
    rw [bne_iff_ne]
    intro heq
    have hbit := h x hx (heq ▸ k.isLt)
    rw [← heq, hk] at hbit
    cases hbit
  simp [blockOf, hnone]

theorem dataInMask_byteData (bytes : List (Nat × Byte)) : DataInMask (byteMask bytes) (byteData bytes) := by
  refine dataInMask_blockOf fun x hx hlt => ?_
  rw [byteMask, maskOf_getLsbD _ _ hlt]
  obtain ⟨y, hy, rfl⟩ := List.mem_map.1 hx
  exact List.mem_map_of_mem hy

/-- The bytes drawn for pixels lie at the bytes of the pixels (R2). -/
theorem pixelOffset_of_byte {f : PixelFormat} {pixels : List (Nat × Nat)} {v : Nat × Nat → Word} {x : Nat × Byte}
    (h : x ∈ pixels.flatMap fun px => pixelBytes f px.1 (v px)) : ∃ px ∈ pixels, px.1 ≤ x.1 ∧ x.1 < px.1 + f.bpp := by
  obtain ⟨px, hpx, hx⟩ := List.mem_flatMap.1 h
  obtain ⟨k, hk, hx, -⟩ := mem_pixelBytes.1 hx
  exact ⟨px, hpx, by omega⟩

/-- Data drawn for pixels whose bytes all lie in the mask is 0 outside it. -/
theorem dataInMask_pixels {mask : BitVec 64} {f : PixelFormat} {pixels : List (Nat × Nat)} (v : Nat × Nat → Word)
    (h : ∀ k < 64, (∃ px ∈ pixels, px.1 ≤ k ∧ k < px.1 + f.bpp) → mask.getLsbD k = true) :
    DataInMask mask (blockOf (pixels.flatMap fun px => pixelBytes f px.1 (v px))) :=
  dataInMask_blockOf fun _ hx hlt => h _ hlt (pixelOffset_of_byte hx)

/-- The combine of an RMW_WRITE whose pixel list is its mask (R70). -/
theorem dataInMask_combine {mask : BitVec 64} {f : PixelFormat} {pixels : List (Nat × Nat)} {fg : Word}
    (h : ContentFits mask (.blend pixels fg f)) (fetched : Block) :
    DataInMask mask (combine pixels fg f fetched) :=
  dataInMask_pixels _ fun k hk hpx => (h ⟨k, hk⟩).2 hpx

/-- Outside both masks a merge holds the older data (R53). -/
theorem dataInMask_mergeData {mask : BitVec 64} {old : Block} (hold : DataInMask mask old) (new : Block)
    (newMask : BitVec 64) : DataInMask (mask ||| newMask) (mergeData old new newMask) := by
  intro k hk
  rw [BitVec.getLsbD_or, Bool.or_eq_false_iff] at hk
  obtain ⟨hk, hk'⟩ := hk
  rw [mergeData, Vector.getElem_ofFn, if_neg (ne_true_of_eq_false hk')]
  exact hold k hk

/-! ### Parts of an access -/

/-- The part has at least one byte, and its content fits its mask. -/
def PartSound (p : BlockPart) : Prop := p.mask ≠ 0#64 ∧ ContentFits p.mask p.content

/-- The bytes of the pixels of one block, by the offsets of the pixels (R67). -/
theorem pixelMask_offsets (f : PixelFormat) (pixels : List (Nat × Nat)) {k : Nat} (hk : k < 64) :
    (pixelMask f pixels).getLsbD k = true
      ↔ ∃ px ∈ pixels.map fun x => (x.1 % 64, x.2), px.1 ≤ k ∧ k < px.1 + f.bpp := by
  rw [pixelMask, maskOf_getLsbD _ _ hk, mem_pixelOffsets]
  simp only [List.mem_map, exists_exists_and_eq_and]
  refine exists_congr fun x => and_congr_right fun _ => ⟨?_, fun ⟨hfirst, hlast⟩ => ?_⟩
  · rintro ⟨j, hj, rfl⟩
    exact ⟨Nat.le_add_right _ _, Nat.add_lt_add_left hj _⟩
  · exact ⟨k - x.1 % 64, by omega, Nat.add_sub_cancel' hfirst⟩

theorem contentFits_coverage (f : PixelFormat) (fg : Word) (pixels : List (Nat × Nat)) :
    ContentFits (pixelMask f pixels) (coverageContent f fg pixels) := by
  by_cases hfull : ∀ x ∈ pixels, x.2 = 15
  · rw [coverageContent_plain hfull]
    have hdata := dataInMask_pixels (f := f) (fun _ => fg) fun k hk => (pixelMask_offsets f pixels hk).2
    rwa [List.flatMap_map] at hdata
  · push Not at hfull
    rw [coverageContent_blend hfull]
    exact fun k => pixelMask_offsets f pixels k.isLt

theorem plainParts_sound {bytes : List (Nat × Byte)} (h : BytesAscend bytes) : ∀ p ∈ plainParts bytes, PartSound p := by
  intro p hp
  obtain ⟨⟨-, -, hne⟩, hparts⟩ := plainParts_spec h
  obtain ⟨hmask, hcontent⟩ := hparts p hp
  refine ⟨(hne p hp).1, ?_⟩
  rw [hmask, hcontent]
  exact dataInMask_byteData _

theorem coverageParts_sound {f : PixelFormat} (fg : Word) {pixels : List (Nat × Nat)} (h : PixelsAscend f pixels) :
    ∀ p ∈ coverageParts f fg pixels, PartSound p := by
  intro p hp
  obtain ⟨⟨-, -, hne⟩, hparts⟩ := coverageParts_spec fg h
  obtain ⟨hmask, hcontent⟩ := hparts p hp
  refine ⟨(hne p hp).1, ?_⟩
  rw [hmask, hcontent]
  exact contentFits_coverage f fg _

theorem byteReadParts_sound (link : Nat) {sources : List (Nat × Nat)} (h : BytesAscend sources) :
    ∀ p ∈ byteReadParts link sources, PartSound p := by
  intro p hp
  obtain ⟨⟨-, -, hne⟩, hparts⟩ := byteReadParts_spec link h
  refine ⟨(hne p hp).1, ?_⟩
  rw [(hparts p hp).2]
  trivial

theorem matchReadParts_sound (link : Nat) {f : PixelFormat} {sources : List (Nat × Nat)} (h : PixelsAscend f sources) :
    ∀ p ∈ matchReadParts link f sources, PartSound p := by
  intro p hp
  obtain ⟨⟨-, -, hne⟩, hparts⟩ := matchReadParts_spec link h
  refine ⟨(hne p hp).1, ?_⟩
  rw [(hparts p hp).2]
  trivial

theorem windowParts_sound (w : Window) (d : Surface) (link : Nat) (a : Access) :
    ∀ p ∈ windowParts w d link a, PartSound p := by
  unfold windowParts
  cases w.staged.kind with
  | direct =>
    cases a.write with
    | true => exact plainParts_sound (directBytes_ascend w d a)
    | false => exact byteReadParts_sound link (directSources_ascend w d a)
  | expand => exact plainParts_sound (expandBytes_ascend w d a)
  | coverage => exact coverageParts_sound _ (coveragePixels_ascend w d a)
  | matchKey => exact matchReadParts_sound link (matchSources_ascend w d a)

theorem passParts_sound (link : Nat) (a : Access) : ∀ p ∈ passParts link a, PartSound p := by
  unfold passParts
  cases a.write with
  | true => exact plainParts_sound (passBytes_ascend a)
  | false => exact byteReadParts_sound link (passSources_ascend a)

theorem accessParts_sound (s : State) (a : Access) : ∀ p ∈ accessParts s a, PartSound p := by
  unfold accessParts
  cases disposition s.wt a with
  | passThrough => exact passParts_sound _ a
  | transformed i =>
    dsimp only
    split
    · exact windowParts_sound _ _ _ a
    · simp
  | wrongDirection | haltedRefusal => simp

/-! ### MOPs of an access -/

/-- A MOP of sound parts stands at a block address, with the mask and content of its part (R49, R50). -/
theorem mopsOfParts_bytesSound {parts : List BlockPart} (h : ∀ p ∈ parts, PartSound p) (id : Nat)
    (tag : Option WindowTag) (host : Word) : ∀ m ∈ mopsOfParts id tag host parts, MopBytesSound m := by
  intro m hm
  have hfields := List.mem_map_of_mem (f := fun m : Mop => (m.block, m.mask, m.content)) hm
  rw [mopsOfParts_map] at hfields
  obtain ⟨p, hp, heq⟩ := List.mem_map.1 hfields
  simp only [Prod.mk.injEq] at heq
  obtain ⟨hblock, hmask, hcontent⟩ := heq
  obtain ⟨hne, hfits⟩ := h p hp
  rw [mopBytesSound_iff, ← hblock, ← hmask, ← hcontent]
  refine ⟨hne, ?_, hfits⟩
  rw [BitVec.toNat_ofNat]
  omega

theorem accessMops_bytesSound (s : State) (a : Access) : ∀ m ∈ accessMops s a, MopBytesSound m :=
  mopsOfParts_bytesSound (accessParts_sound s a) _ _ _

/-- Two PLAIN_WRITEs merge into one whose data lies in both masks together (R53). -/
theorem mergeTail_bytesSound {tail m : Mop} {old new : Block} (htail : tail.content = .plain old)
    (hm : m.content = .plain new) (hsound : MopBytesSound tail) : MopBytesSound (mergeTail tail m) := by
  rw [mopBytesSound_iff, htail] at hsound
  obtain ⟨hmask, hblock, hold⟩ := hsound
  rw [mopBytesSound_iff, mergeTail_plain htail hm]
  exact ⟨fun h => hmask (BitVec.or_eq_zero_iff.1 h).1, hblock, dataInMask_mergeData hold new m.mask⟩

/-- The queue after an access whose MOPs enter apart or merged (R49, R53). -/
theorem queueAfter_bytesSound {s : State} (hs : BytesSound s) (a : Access) : ∀ m ∈ queueAfter s a, MopBytesSound m := by
  have hnew := accessMops_bytesSound s a
  by_cases happart : ∀ m tail, (accessMops s a).head? = some m → ¬ TailTakes s.oq tail m
  · rw [(queueAfter_of_apart happart).1]
    exact List.forall_mem_append.2 ⟨hs, hnew⟩
  · push Not at happart
    obtain ⟨m, tail, hhead, htakes⟩ := happart
    obtain ⟨rest, hmops⟩ := List.head?_eq_some_iff.1 hhead
    rw [(queueAfter_of_merge hmops htakes).1]
    rw [hmops, List.forall_mem_cons] at hnew
    obtain ⟨hlast, ⟨old, htail⟩, -, ⟨new, hplain⟩, -⟩ := htakes
    have hold : MopBytesSound tail := hs tail (List.mem_of_getLast? hlast)
    refine List.forall_mem_append.2 ⟨fun x hx => hs x (List.mem_of_mem_dropLast hx), ?_⟩
    exact List.forall_mem_cons.2 ⟨mergeTail_bytesSound htail hplain hold, hnew.2⟩

/-! ### Every move keeps the bytes sound -/

theorem bytesSound_of_subset {s t : State} (h : t.oq.mops ⊆ s.oq.mops) (hs : BytesSound s) : BytesSound t :=
  fun m hm => hs m (h hm)

theorem bytesSound_of_oq {s t : State} (h : t.oq = s.oq) (hs : BytesSound s) : BytesSound t :=
  bytesSound_of_subset (h ▸ List.Subset.refl _) hs

/-- An update of one MOP keeps the bytes of all when it keeps its own. -/
theorem updateMop_bytesSound {f : Mop → Mop} (hf : ∀ m, MopBytesSound m → MopBytesSound (f m)) (id : Nat)
    {mops : List Mop} (hs : ∀ m ∈ mops, MopBytesSound m) : ∀ m ∈ updateMop id f mops, MopBytesSound m := by
  intro m hm
  obtain ⟨x, hx, rfl⟩ := mem_updateMop.1 hm
  split
  · exact hf x (hs x hx)
  · exact hs x hx

/-- The combine makes data of a pixel list and leaves every other content as it is (R70, R99). -/
theorem combinedMop_bytesSound (data : Block) (m : Mop) (h : MopBytesSound m) : MopBytesSound (combinedMop data m) := by
  unfold combinedMop
  split
  · rename_i pixels fg f hcontent
    rw [mopBytesSound_iff, hcontent] at h
    obtain ⟨hmask, hblock, hfits⟩ := h
    exact (mopBytesSound_iff _).2 ⟨hmask, hblock, dataInMask_combine hfits data⟩
  · exact h
  · exact h
  · exact h

theorem QueueMove.bytesSound {s t : State} (h : QueueMove s t) (hs : BytesSound s) : BytesSound t := by
  cases h with
  | elsewhere h => exact bytesSound_of_oq h.oq hs
  | issue m t p _ _ =>
    exact updateMop_bytesSound (f := fun x => { x with state := issuedState t p }) (fun _ hx => hx) m.id hs
  | combine m data _ => exact updateMop_bytesSound (combinedMop_bytesSound data) _ hs
  | remove m _ => exact bytesSound_of_subset (removeMop_mops m s ▸ List.filter_subset_self _) hs
  | linked m f => exact bytesSound_of_oq (onLinkedEntry_oq m f s) hs
  | answered => exact bytesSound_of_oq (answerHead_oq s) hs
  | halt i _ => exact bytesSound_of_subset (haltWindow_mops i s ▸ List.filter_subset_self _) hs
  | pass a _ _ => exact queueAfter_bytesSound hs a
  | serve i a _ _ _ => exact queueAfter_bytesSound hs a
  | push a n error _ => exact bytesSound_of_oq (pushEntry_oq a n error s) hs
  | record | turnAway => exact hs

theorem PortMove.bytesSound {s t : State} (h : PortMove s t) (hs : BytesSound s) : BytesSound t := by
  cases h with
  | tables _ hstay =>
    obtain ⟨hoq, -, -⟩ := hstay
    exact bytesSound_of_oq hoq hs
  | configure | acknowledge | recover | pop | fenceAtOnce | fencePlaced => exact hs

/-- Settles O59, move by move: an access brings in parts cut with their own masks, a merge joins data and masks, a
combine draws inside its pixel list, and no other move touches the bytes of a MOP. -/
theorem stepKeepsMopBytesSound : Obligations.StepKeepsMopBytesSound :=
  fun _ _ hs h =>
    step_keeps_queues (P := BytesSound) (fun h => bytesSound_of_oq h.oq) (fun h => h.bytesSound) (fun h => h.bytesSound)
      bytesSound_reset h hs

end Sys2Proof.Proofs
end

section
/-! PROOF. The issue event: the command that it chooses by the order of the queue and of the tags, and the state that it
leaves. -/

namespace Sys2Proof.Proofs

open Sys2Proof.Machine Sys2Proof.Safety Sys2Proof.Claims

/-! ### A MOP by its serial number -/

/-- In creation order no other MOP of the queue has the serial number of a MOP (R89). -/
theorem id_ne_of_creationOrder {s : State} {older younger : List Mop} {m : Mop} (h : CreationOrder s)
    (hmops : s.oq.mops = older ++ m :: younger) : (∀ x ∈ older, x.id ≠ m.id) ∧ ∀ x ∈ younger, x.id ≠ m.id := by
  obtain ⟨hpairs, -⟩ := h
  rw [hmops, List.pairwise_append, List.pairwise_cons] at hpairs
  obtain ⟨-, ⟨hyounger, -⟩, holder⟩ := hpairs
  exact ⟨fun x hx => (holder x hx m List.mem_cons_self).ne, fun x hx => (hyounger x hx).ne'⟩

/-- The update of a MOP changes it alone (R90). -/
theorem updateMop_of_split {s : State} {older younger : List Mop} {m : Mop} (h : CreationOrder s)
    (hmops : s.oq.mops = older ++ m :: younger) (f : Mop → Mop) :
    updateMop m.id f s.oq.mops = older ++ f m :: younger := by
  obtain ⟨holder, hyounger⟩ := id_ne_of_creationOrder h hmops
  have hsame : ∀ l : List Mop, (∀ x ∈ l, x.id ≠ m.id) → updateMop m.id f l = l := fun l hl =>
    (List.map_congr_left fun x hx => if_neg (hl x hx)).trans (List.map_id l)
  calc updateMop m.id f s.oq.mops = updateMop m.id f older ++ f m :: updateMop m.id f younger := by
        simp [hmops, updateMop]
    _ = older ++ f m :: younger := by rw [hsame older holder, hsame younger hyounger]

/-- A MOP of the queue is the one found by its serial number. -/
theorem findMop_of_mem {s : State} {m : Mop} (h : CreationOrder s) (hm : m ∈ s.oq.mops) :
    findMop m.id s.oq.mops = some m := by
  obtain ⟨older, younger, hmops⟩ := List.append_of_mem hm
  obtain ⟨holder, -⟩ := id_ne_of_creationOrder h hmops
  have hnone : findMop m.id older = none := List.find?_eq_none.2 fun x hx => by simpa using holder x hx
  rw [findMop] at hnone ⊢
  rw [hmops, List.find?_append, hnone]
  simp

/-! ### The choice of an issue event -/

/-- The oldest eligible MOP is the one chosen (R96). -/
theorem oldestEligible_of_split {m : Mop} {younger : List Mop} : ∀ {older passed : List Mop},
    (∀ a x b, older = a ++ x :: b → eligible (passed ++ a) x = false) → eligible (passed ++ older) m = true →
    oldestEligible passed (older ++ m :: younger) = some m
  | [], passed, _, hm => by
    rw [List.append_nil] at hm
    simp [oldestEligible, hm]
  | y :: older, passed, hnone, hm => by
    have hy : eligible passed y = false := by simpa using hnone [] y older rfl
    have hrest : ∀ a x b, older = a ++ x :: b → eligible (passed ++ [y] ++ a) x = false := fun a x b heq => by
      simpa using hnone (y :: a) x b (congrArg (y :: ·) heq)
    rw [List.cons_append, oldestEligible, if_neg (ne_true_of_eq_false hy)]
    exact oldestEligible_of_split hrest (by simpa using hm)

/-- Without an eligible MOP none is chosen (R96). -/
theorem oldestEligible_eq_none {mops : List Mop} (h : ∀ a x b, mops = a ++ x :: b → eligible a x = false) :
    oldestEligible [] mops = none := by
  rw [Option.eq_none_iff_forall_ne_some]
  intro m hm
  obtain ⟨a, b, hmops, heligible⟩ := oldestEligible_some hm
  rw [List.nil_append, h a m b hmops] at heligible
  cases heligible

/-- The FREE tag behind tags none of which is FREE is the lowest (R114). -/
theorem lowestFreeTag_eq_some_iff (s : State) (t : Fin 8) :
    lowestFreeTag s.msp.tags = some t ↔ s.tag t = .free ∧ ∀ u < t, s.tag u ≠ .free := by
  rw [lowestFreeTag, ← Fin.find?_eq_find?_finRange, Fin.find?_eq_some_iff]
  simp [State.tag]

theorem lowestFreeTag_eq_none_iff (s : State) : lowestFreeTag s.msp.tags = none ↔ ∀ t, s.tag t ≠ .free := by
  rw [lowestFreeTag, ← Fin.find?_eq_find?_finRange, Fin.find?_eq_none_iff]
  simp [State.tag]

/-! ### The issue event -/

theorem exec_issue {s : State} (h : s.resetN = true) : exec .issue s = .next (issueNext s) :=
  congrArg Host.Outcome.next (unlessReset_of_high h _)

theorem issueNext_of_choice {s : State} {m : Mop} {t : Fin 8} {p : Phase}
    (hm : oldestEligible [] s.oq.mops = some m) (ht : lowestFreeTag s.msp.tags = some t)
    (hp : m.nextPhase = some p) : issueNext s = issueMop m t p s := by
  simp only [issueNext, issueChoice, hm, ht, hp]

theorem issueNext_of_no_choice {s : State}
    (h : oldestEligible [] s.oq.mops = none ∨ lowestFreeTag s.msp.tags = none) : issueNext s = s := by
  have hnone : issueChoice s = none := by
    rw [Option.eq_none_iff_forall_ne_some]
    rintro ⟨m, t⟩ hchoice
    obtain ⟨hm, ht⟩ := issueChoice_some hchoice
    obtain h | h := h
    · rw [h] at hm; cases hm
    · rw [h] at ht; cases ht
  simp only [issueNext, hnone]

theorem issuedState_eq (t : Fin 8) (p : Phase) : issuedState t p = if p = .fetch then .fetching t else .issued t := by
  cases p <;> rfl

/-- A write command carries the final data of its MOP, a READ command none (R73, R110). -/
theorem commandOf_eq {m : Mop} {p : Phase} {data : Block}
    (hwrite : p = .write → m.content = .plain data ∨ m.content = .blended data)
    (hread : p ≠ .write → data = Vector.replicate 64 0#8) (t : Fin 8) :
    commandOf m t p = { write := p = .write, tag := t, block := m.block, mask := m.mask, data := data } := by
  have hdata : (if p = .write then m.writeData else Vector.replicate 64 0#8) = data := by
    split
    · rename_i hp
      obtain hcontent | hcontent := hwrite hp <;> simp only [Mop.writeData, hcontent]
    · rename_i hp
      exact (hread hp).symm
  rw [commandOf, hdata]

/-- Settles O33: the choice by the place of the MOP in the queue and of the tag among the tags, then the three blocks
that the issue changes. -/
theorem issueTakesOldestEligibleCommand : Obligations.IssueTakesOldestEligibleCommand := by
  intro s hreset
  rw [exec_issue hreset]
  refine ⟨fun older younger m t p data horder hmops hphase heligible hnone hfree hlower hwrite hread => ?_,
    fun hnothing => ?_⟩
  · have hm : oldestEligible [] s.oq.mops = some m := by
      rw [hmops]
      exact oldestEligible_of_split hnone heligible
    rw [issueNext_of_choice hm ((lowestFreeTag_eq_some_iff s t).2 ⟨hfree, hlower⟩) hphase, issueMop,
      updateMop_of_split horder hmops, commandOf_eq hwrite hread, issuedState_eq]
    rfl
  · rw [issueNext_of_no_choice (hnothing.imp oldestEligible_eq_none (lowestFreeTag_eq_none_iff s).2)]

end Sys2Proof.Proofs
end

section
/-! PROOF. Responses to OUTSTANDING tags: the MOP that a response finds, what its data and its error leave in the entry
of a READ MOP, and the state after each phase. -/

namespace Sys2Proof.Proofs

open Sys2Proof.Machine Sys2Proof.Safety Sys2Proof.Claims

/-! ### The MOP of a response -/

theorem exec_memoryResponse {s : State} (h : s.resetN = true) (t : Fin 8) (st : RespStatus) (data : Block) :
    exec (.memoryResponse t st data) s = .next (acceptResponse t st data s) :=
  congrArg Host.Outcome.next (unlessReset_of_high h _)

section Delivered

variable {s : State} {t : Fin 8} {m : Mop} {p : Phase} {deadline : Option Nat}

/-- A response to an OUTSTANDING tag frees the tag and goes to the bound MOP (R114): with status OK the MOP's command
has been carried out. -/
theorem acceptResponse_ok (horder : CreationOrder s) (hm : m ∈ s.oq.mops)
    (htag : s.tag t = .outstanding m.id p deadline m.block) (data : Block) :
    acceptResponse t .ok data s = deliverOk m p data (s.withTag t .free) := by
  have hfound : findMop m.id (s.withTag t .free).oq.mops = some m := findMop_of_mem horder hm
  simp only [acceptResponse, htag, deliver, hfound]

/-- With status ERR the MOP's command has failed. -/
theorem acceptResponse_err (horder : CreationOrder s) (hm : m ∈ s.oq.mops)
    (htag : s.tag t = .outstanding m.id p deadline m.block) (data : Block) :
    acceptResponse t .err data s = deliverErr m p t (s.withTag t .free) := by
  have hfound : findMop m.id (s.withTag t .free).oq.mops = some m := findMop_of_mem horder hm
  simp only [acceptResponse, htag, deliver, hfound]

end Delivered

/-! ### The data of a READ MOP -/

theorem convertRead_bytes (s : State) {m : Mop} {link : Nat} {entries : List (Nat × Nat)}
    (h : m.content = .read link (.bytes entries)) (data : Block) :
    convertRead s m data = placeBytes entries data := by
  funext w
  simp only [convertRead, h]

/-- The match bits are those of the window that the MOP's tag names and of its surface (R80, R81). -/
theorem convertRead_bits {s : State} {m : Mop} {link : Nat} {entries : List (Nat × Nat)} {tag : WindowTag} {d : Surface}
    (h : m.content = .read link (.bits entries)) (hwindow : m.window = some tag)
    (hsurface : s.surface (s.window tag.index).staged.surface = some d) (data : Block) :
    convertRead s m data
      = placeBits entries d.format (s.window tag.index).staged.key (s.window tag.index).staged.keyMask data := by
  funext w
  simp only [convertRead, h, hwindow, hsurface]

theorem onLinkedEntry_of_read {m : Mop} {link : Nat} {map : ReadMap} (h : m.content = .read link map)
    (f : Entry → Entry) (s : State) : onLinkedEntry m f s = s.withEntries (updateEntry link f s.hsp.entries) := by
  simp only [onLinkedEntry, Mop.link, h]

/-- Settles O36, phase by phase. -/
theorem okResponseCompletesItsMop : Obligations.OkResponseCompletesItsMop := by
  intro s t data m deadline p hreset horder hm htag
  rw [exec_memoryResponse hreset, acceptResponse_ok horder hm htag]
  refine ⟨?_, ?_, ?_⟩
  · rintro rfl
    rfl
  · rintro older younger pixels fg f rfl hmops hcontent
    simp only [deliverOk, withTag_oq, updateMop_of_split horder hmops, combinedMop, hcontent]
  · rintro link map rfl hcontent
    refine ⟨convertRead (s.withTag t .free) m data, ?_, ?_, ?_⟩
    · simp only [deliverOk, onLinkedEntry_of_read hcontent]
      rfl
    · rintro entries rfl
      exact convertRead_bytes _ hcontent data
    · rintro entries tag d rfl hwindow hsurface
      exact convertRead_bits hcontent hwindow hsurface data

/-! ### Failures -/

/-- A failed MOP is removed behind the entries that its failure leaves (R84, R101). -/
theorem failMop_eq (m : Mop) (s : State) :
    failMop m s = removeMop m (s.withEntries (entriesAfterFailure m.content s.hsp.entries)) := by
  have hentries : onLinkedEntry m (fun e => e.fail 1) s
      = s.withEntries (entriesAfterFailure m.content s.hsp.entries) := by
    cases hcontent : m.content with
    | read link map => exact onLinkedEntry_of_read hcontent _ s
    | plain | blend | blended => simp only [onLinkedEntry, Mop.link, hcontent]; rfl
  rw [failMop, hentries]

/-- Settles O37: the entry and the removal by the content of the MOP, the kind of fault by the phase. -/
theorem errResponseFailsItsMop : Obligations.ErrResponseFailsItsMop := by
  intro s t data m deadline p hreset horder hm htag
  rw [exec_memoryResponse hreset, acceptResponse_err horder hm htag]
  simp only [deliverErr, failMop_eq]
  cases p <;> rfl

end Sys2Proof.Proofs
end

section
/-! PROOF. The blend of one channel as the rounded mean of R68. -/

namespace Sys2Proof.Proofs

open Sys2Proof.Machine

/-- The integer division of the model is the floor of the rational quotient (R68). -/
theorem blendChannel_floor (f d : Nat) {c : Nat} (hc : c ≤ 15) :
    (blendChannel f d c : ℤ) = ⌊((f : ℚ) * c + d * (15 - c) + 7) / 15⌋ := by
  have hsum : (f : ℚ) * c + d * (15 - c) + 7 = ((f * c + d * (15 - c) + 7 : ℕ) : ℚ) := by
    push_cast [Nat.cast_sub hc]
    rfl
  rw [hsum, blendChannel, Int.natCast_div]
  exact_mod_cast (Rat.floor_natCast_div_natCast _ 15).symm

/-- Fifteen times the blend is the weighted sum, rounded by at most 7. -/
theorem blendChannel_weights (f d c : Nat) :
    15 * blendChannel f d c ≤ f * c + d * (15 - c) + 7 ∧ f * c + d * (15 - c) ≤ 15 * blendChannel f d c + 7 := by
  unfold blendChannel
  omega

/-- Weights that add up to 15 keep the weighted sum between 15 times the lower and 15 times the higher value. -/
theorem weightedSum_bounds (f d : Nat) {c : Nat} (hc : c ≤ 15) :
    15 * min f d ≤ f * c + d * (15 - c) ∧ f * c + d * (15 - c) ≤ 15 * max f d := by
  have hweights : ∀ x : Nat, 15 * x = x * c + x * (15 - c) := fun x => by
    rw [← Nat.mul_add, Nat.add_sub_cancel' hc, Nat.mul_comm]
  rw [hweights, hweights]
  exact ⟨Nat.add_le_add (Nat.mul_le_mul_right c (min_le_left f d)) (Nat.mul_le_mul_right _ (min_le_right f d)),
    Nat.add_le_add (Nat.mul_le_mul_right c (le_max_left f d)) (Nat.mul_le_mul_right _ (le_max_right f d))⟩

/-- The blend lies between its two colours (R68). -/
theorem blendChannel_bounds (f d : Nat) {c : Nat} (hc : c ≤ 15) :
    min f d ≤ blendChannel f d c ∧ blendChannel f d c ≤ max f d := by
  obtain ⟨hlow, hhigh⟩ := blendChannel_weights f d c
  obtain ⟨hmin, hmax⟩ := weightedSum_bounds f d hc
  omega

/-- Settles O40: the floor, then the bounds of the weighted mean. -/
theorem blendStaysBetweenColours : Obligations.BlendStaysBetweenColours := by
  intro f d c _ hc
  have hbounds := blendChannel_bounds f d hc
  refine ⟨blendChannel_floor f d hc, ?_, fun _ => hbounds, ?_⟩
  · rintro rfl
    have hweights := blendChannel_weights f d 15
    omega
  · rintro rfl
    rw [min_self, max_self] at hbounds
    omega

end Sys2Proof.Proofs
end

section
/-! PROOF. Tags against the MOPs of the queue: each tag OUTSTANDING for the MOP that holds it and for no other, and what
a change of one tag and one MOP, a cancellation and an access leave of that. -/

namespace Sys2Proof.Proofs

open Sys2Proof.Machine Sys2Proof.Safety Sys2Proof.Claims

/-! ### One tag against the queue -/

/-- The tag `t`, in state `x`, is OUTSTANDING exactly while a MOP of the queue holds it, for that MOP (R113, R114). -/
def TagHeld (mops : List Mop) (t : Fin 8) (x : Tag) : Prop :=
  (∀ id phase deadline block, x = .outstanding id phase deadline block →
      ∃ m ∈ mops, m.id = id ∧ m.tag = some t ∧ m.block = block ∧ outstandingPhase m = some phase)
    ∧ ∀ m ∈ mops, m.tag = some t → ∃ phase deadline, x = .outstanding m.id phase deadline m.block

theorem tagsBound_iff (s : State) : TagsBound s ↔ ∀ t, TagHeld s.oq.mops t (s.tag t) :=
  ⟨fun ⟨hbound, hheld⟩ t => ⟨hbound t, fun m hm ht => hheld m hm t ht⟩,
    fun h => ⟨fun t => (h t).1, fun m hm t ht => (h t).2 m hm ht⟩⟩

/-- Only the MOPs that hold a tag count for it. -/
theorem TagHeld.congr {mops mops' : List Mop} {t : Fin 8} {x : Tag} (h : TagHeld mops t x)
    (hmem : ∀ m : Mop, m.tag = some t → (m ∈ mops' ↔ m ∈ mops)) : TagHeld mops' t x := by
  obtain ⟨hbound, hheld⟩ := h
  refine ⟨fun id phase deadline block hx => ?_, fun m hm ht => hheld m ((hmem m ht).1 hm) ht⟩
  obtain ⟨m, hm, hid, ht, hrest⟩ := hbound id phase deadline block hx
  exact ⟨m, (hmem m ht).2 hm, hid, ht, hrest⟩

theorem tagHeld_of_unheld {mops : List Mop} {t : Fin 8} {x : Tag} (hx : x.isOutstanding = false)
    (h : ∀ m ∈ mops, m.tag ≠ some t) : TagHeld mops t x :=
  ⟨fun _ _ _ _ he => (by subst he; cases hx), fun m hm ht => absurd ht (h m hm)⟩

/-- No MOP holds a tag that is not OUTSTANDING. -/
theorem TagHeld.unheld {mops : List Mop} {t : Fin 8} {x : Tag} (h : TagHeld mops t x) (hx : x.isOutstanding = false) :
    ∀ m ∈ mops, m.tag ≠ some t := by
  intro m hm ht
  obtain ⟨phase, deadline, rfl⟩ := h.2 m hm ht
  cases hx

/-- One MOP alone holds a tag (R114). -/
theorem TagHeld.unique {mops : List Mop} {t : Fin 8} {x : Tag} (h : TagHeld mops t x) {m n : Mop} (hm : m ∈ mops)
    (hmt : m.tag = some t) (hn : n ∈ mops) (hnt : n.tag = some t) : m.id = n.id := by
  obtain ⟨p, d, rfl⟩ := h.2 m hm hmt
  obtain ⟨p', d', hx⟩ := h.2 n hn hnt
  rw [Tag.outstanding.injEq] at hx
  exact hx.1

theorem TagHeld.recovered {mops : List Mop} {t : Fin 8} {x : Tag} (h : TagHeld mops t x) :
    TagHeld mops t x.recovered := by
  cases x with
  | quarantined phase block => exact tagHeld_of_unheld rfl (h.unheld rfl)
  | free | outstanding => exact h

/-! ### All tags against the queue -/

/-- The queue is in creation order, its MOPs are in states of their kinds, and every tag agrees with it. -/
structure TagsAgree (mops : List Mop) (next : Nat) (tag : Fin 8 → Tag) : Prop where
  order : IdsAscend (mops.map Mop.id) next
  shape : ∀ m ∈ mops, MopShape m
  held : ∀ t, TagHeld mops t (tag t)

theorem tagsSound_iff (s : State) : TagsSound s ↔ TagsAgree s.oq.mops s.oq.nextId s.tag := by
  rw [TagsSound, creationOrder_iff, tagsBound_iff]
  exact ⟨fun ⟨horder, hshape, hheld⟩ => ⟨horder, hshape, hheld⟩, fun h => ⟨h.order, h.shape, h.held⟩⟩

section Changes

variable {mops mops' : List Mop} {next : Nat} {tag : Fin 8 → Tag} {t : Fin 8} {x : Tag}

/-- A change of one tag, with the queue changed in nothing that the other tags see. -/
theorem TagsAgree.rebind (h : TagsAgree mops next tag) (horder : IdsAscend (mops'.map Mop.id) next)
    (hshape : ∀ m ∈ mops', MopShape m)
    (hothers : ∀ u ≠ t, ∀ m : Mop, m.tag = some u → (m ∈ mops' ↔ m ∈ mops)) (hx : TagHeld mops' t x) :
    TagsAgree mops' next (Function.update tag t x) := by
  refine ⟨horder, hshape, fun u => ?_⟩
  by_cases hu : u = t
  · subst hu
    rwa [Function.update_self]
  · rw [Function.update_of_ne hu]
    exact (h.held u).congr (hothers u hu)

/-- A tag that is not OUTSTANDING changes to another such state (R119, R122). -/
theorem TagsAgree.retag (h : TagsAgree mops next tag) (ht : (tag t).isOutstanding = false)
    (hx : x.isOutstanding = false) : TagsAgree mops next (Function.update tag t x) :=
  h.rebind h.order h.shape (fun _ _ _ _ => Iff.rfl) (tagHeld_of_unheld hx ((h.held t).unheld ht))

/-- A MOP leaves the queue in the event in which its tag stops being OUTSTANDING (R98, R100, R101, R117). -/
theorem TagsAgree.retire (h : TagsAgree mops next tag) {m : Mop} (hm : m ∈ mops) (hmt : m.tag = some t)
    (hx : x.isOutstanding = false) : TagsAgree (dropMop m.id mops) next (Function.update tag t x) := by
  have hdropped : ∀ n ∈ dropMop m.id mops, n ∈ mops := fun n hn => (mem_dropMop.1 hn).1
  refine h.rebind (h.order.sublist (List.filter_sublist.map _)) (fun n hn => h.shape n (hdropped n hn)) ?_ ?_
  · intro u hu n hnu
    have hne : n ≠ m := by
      rintro rfl
      exact hu (Option.some.inj (hnu.symm.trans hmt))
    rw [(perm_dropMop h.order.1 hm).mem_iff, List.mem_cons, or_iff_right hne]
  · refine tagHeld_of_unheld hx fun n hn hnt => ?_
    obtain ⟨hn, hid⟩ := mem_dropMop.1 hn
    exact hid ((h.held t).unique hn hnt hm hmt)

/-- A MOP takes or gives up a tag in its place of the queue (R96, R99). -/
theorem TagsAgree.replace {older younger : List Mop} {m m' : Mop} (h : TagsAgree (older ++ m :: younger) next tag)
    (hid : m'.id = m.id) (hshape : MopShape m') (hm : ∀ u ≠ t, m.tag ≠ some u) (hm' : ∀ u ≠ t, m'.tag ≠ some u)
    (hx : TagHeld (older ++ m' :: younger) t x) :
    TagsAgree (older ++ m' :: younger) next (Function.update tag t x) := by
  have hne : ∀ {n k : Mop} {u : Fin 8}, n.tag = some u → k.tag ≠ some u → n ≠ k := by
    rintro n _ u hn hk rfl
    exact hk hn
  refine h.rebind ?_ ?_ (fun u hu n hn => ?_) hx
  · simpa [hid] using h.order
  · have hold := h.shape
    rw [List.forall_mem_append, List.forall_mem_cons] at hold ⊢
    exact ⟨hold.1, hshape, hold.2.2⟩
  · simp only [List.mem_append, List.mem_cons, hne hn (hm u hu), hne hn (hm' u hu), false_or]

/-- MOPs without a tag leave the queue (R103). -/
theorem TagsAgree.cancel (h : TagsAgree mops next tag) {keep : Mop → Bool}
    (hkeep : ∀ (m : Mop) (t : Fin 8), m.tag = some t → keep m = true) : TagsAgree (mops.filter keep) next tag where
  order := h.order.sublist (List.filter_sublist.map _)
  shape m hm := h.shape m (List.mem_filter.1 hm).1
  held t := (h.held t).congr fun m ht => by simp [hkeep m t ht]

/-- MOPs without a tag enter the queue or merge (R50, R53). -/
theorem TagsAgree.enter {next' : Nat} (h : TagsAgree mops next tag) (horder : IdsAscend (mops'.map Mop.id) next')
    (hshape : ∀ m ∈ mops', MopShape m)
    (hmem : ∀ (t : Fin 8) (m : Mop), m.tag = some t → (m ∈ mops' ↔ m ∈ mops)) : TagsAgree mops' next' tag :=
  ⟨horder, hshape, fun t => (h.held t).congr (hmem t)⟩

end Changes

/-! ### States and contents of a MOP with its command -/

theorem tag_of_pending {m : Mop} (h : m.state = .pending) : m.tag = none := by simp [Mop.tag, h]

/-- The MOP that is issued holds no tag yet, and holds the tag of its command in the state of its phase from then on
(R91, R96). -/
theorem issued_of_nextPhase {m : Mop} {p : Phase} (h : m.nextPhase = some p) (t : Fin 8) :
    m.tag = none ∧ MopShape { m with state := issuedState t p }
      ∧ Mop.tag { m with state := issuedState t p } = some t
      ∧ outstandingPhase { m with state := issuedState t p } = some p := by
  unfold Mop.nextPhase at h
  split at h
  case h_5 => cases h
  all_goals
    rename_i hcontent hstate
    cases h
    simp [Mop.tag, MopShape, outstandingPhase, issuedState, hcontent, hstate]

/-- A MOP whose fetch is outstanding has a pixel list (R91). -/
theorem blend_of_fetch {m : Mop} (h : outstandingPhase m = some .fetch) :
    ∃ pixels fg f, m.content = .blend pixels fg f := by
  unfold outstandingPhase at h
  split at h
  case h_2 pixels fg f _ hcontent _ => exact ⟨pixels, fg, f, hcontent⟩
  all_goals cases h

/-- The combine leaves a READY MOP without a tag (R70, R99). -/
theorem combinedMop_of_fetch {m : Mop} (h : outstandingPhase m = some .fetch) (data : Block) :
    (combinedMop data m).id = m.id ∧ MopShape (combinedMop data m) ∧ (combinedMop data m).tag = none
      ∧ (combinedMop data m).link = m.link := by
  obtain ⟨pixels, fg, f, hcontent⟩ := blend_of_fetch h
  simp [combinedMop, hcontent, MopShape, Mop.tag, Mop.link]

/-- A MOP whose write is outstanding supplies no entry (R91). -/
theorem link_of_write {m : Mop} (h : outstandingPhase m = some .write) : m.link = none := by
  unfold outstandingPhase at h
  split at h
  case h_1 hcontent _ => simp [Mop.link, hcontent]
  case h_3 hcontent _ => simp [Mop.link, hcontent]
  all_goals cases h

end Sys2Proof.Proofs
end

section
/-! PROOF. Response queue entries against the links of the READ MOPs: what a completion, a failure, a cancellation, a
new entry and an answer leave of their agreement. -/

namespace Sys2Proof.Proofs

open Sys2Proof.Machine Sys2Proof.Safety Sys2Proof.Claims

/-! ### Entries against links -/

/-- The entries that the READ MOPs of a queue link to, one for each such MOP. -/
def linksOf (mops : List Mop) : List Nat := mops.filterMap Mop.link

@[simp] theorem linksOf_nil : linksOf [] = [] := rfl

@[simp] theorem linksOf_append (mops mops' : List Mop) : linksOf (mops ++ mops') = linksOf mops ++ linksOf mops' :=
  List.filterMap_append

@[simp] theorem linksOf_cons (m : Mop) (mops : List Mop) : linksOf (m :: mops) = m.link.toList ++ linksOf mops := by
  rw [linksOf, List.filterMap_cons]
  cases m.link <;> rfl

theorem linksOf_replace {m m' : Mop} (h : m'.link = m.link) (older younger : List Mop) :
    linksOf (older ++ m' :: younger) = linksOf (older ++ m :: younger) := by
  simp [h]

theorem count_linksOf (mops : List Mop) (id : Nat) :
    (linksOf mops).count id = mops.countP fun m => m.link = some id := by
  rw [linksOf, List.count_filterMap]
  exact List.countP_congr fun m _ => by simp

/-- An entry waits on as many READ MOPs as link to it, and shows 0 once its error flag is set (R82, R86). -/
def EntryExact (links : List Nat) (e : Entry) : Prop :=
  e.outstanding = links.count e.id ∧ (e.error = true → e.word = 0#32)

/-- Entries stand in creation order, each waits on exactly its links, and every link finds its entry (R82, R129). -/
structure EntriesAgree (links : List Nat) (entries : List Entry) (next : Nat) : Prop where
  order : IdsAscend (entries.map Entry.id) next
  exact : ∀ e ∈ entries, EntryExact links e
  found : links ⊆ entries.map Entry.id

theorem entriesExact_iff (s : State) :
    EntriesExact s ↔ EntriesAgree (linksOf s.oq.mops) s.hsp.entries s.hsp.nextId := by
  have horder : IdsAscend (s.hsp.entries.map Entry.id) s.hsp.nextId
      ↔ s.hsp.entries.Pairwise (fun a b => a.id < b.id) ∧ ∀ e ∈ s.hsp.entries, e.id < s.hsp.nextId := by
    simp [IdsAscend, List.pairwise_map]
  have hfound : linksOf s.oq.mops ⊆ s.hsp.entries.map Entry.id
      ↔ ∀ m ∈ s.oq.mops, ∀ link ∈ m.link, ∃ e ∈ s.hsp.entries, e.id = link := by
    simp only [List.subset_def, linksOf, List.mem_filterMap, List.mem_map, Option.mem_def]
    exact ⟨fun h m hm link hlink => h ⟨m, hm, hlink⟩, fun h link ⟨m, hm, hlink⟩ => h m hm link hlink⟩
  constructor
  · rintro ⟨hpairs, hbound, hcount, hlinks, herror⟩
    exact ⟨horder.2 ⟨hpairs, hbound⟩, fun e he => ⟨by rw [count_linksOf]; exact hcount e he, herror e he⟩,
      hfound.2 hlinks⟩
  · rintro ⟨hids, hexact, hlinks⟩
    obtain ⟨hpairs, hbound⟩ := horder.1 hids
    exact ⟨hpairs, hbound, fun e he => by rw [← count_linksOf]; exact (hexact e he).1, hfound.1 hlinks,
      fun e he => (hexact e he).2⟩

/-! ### Changes of entries and links -/

/-- What the completion or the failure of one READ MOP does to its entry: it waits on one MOP less, and still shows 0
with its error flag set (R82, R84). -/
def CountsDown (f : Entry → Entry) : Prop :=
  ∀ e, (f e).id = e.id ∧ (f e).outstanding = e.outstanding - 1
    ∧ ((e.error = true → e.word = 0#32) → (f e).error = true → (f e).word = 0#32)

theorem countsDown_supply (g : Word → Word) : CountsDown fun e => e.supply g := fun e =>
  ⟨rfl, rfl, fun hword herror => by
    have herror : e.error = true := herror
    simpa [Entry.supply, herror] using hword herror⟩

theorem countsDown_fail : CountsDown fun e => e.fail 1 := fun _ => ⟨rfl, rfl, fun _ _ => rfl⟩

section Changes

variable {links : List Nat} {entries : List Entry} {next : Nat}

theorem EntriesAgree.perm {links' : List Nat} (h : EntriesAgree links entries next) (hperm : links.Perm links') :
    EntriesAgree links' entries next where
  order := h.order
  exact e he := ⟨(h.exact e he).1.trans (hperm.count_eq _), (h.exact e he).2⟩
  found _ hlink := h.found (hperm.mem_iff.2 hlink)

/-- A change of every entry that keeps its number and makes it exact for the links that are left. -/
theorem EntriesAgree.map {links' : List Nat} (h : EntriesAgree links entries next) {f : Entry → Entry}
    (hid : ∀ e, (f e).id = e.id) (hexact : ∀ e, EntryExact links e → EntryExact links' (f e))
    (hsub : links' ⊆ links) : EntriesAgree links' (entries.map f) next := by
  have hids : (entries.map f).map Entry.id = entries.map Entry.id := by simp [hid]
  refine ⟨hids ▸ h.order, ?_, fun link hlink => hids ▸ h.found (hsub hlink)⟩
  rw [List.forall_mem_map]
  exact fun e he => hexact e (h.exact e he)

/-- One READ MOP has completed or failed (R82, R84). -/
theorem EntriesAgree.countDown {link : Nat} (h : EntriesAgree (link :: links) entries next) {f : Entry → Entry}
    (hf : CountsDown f) : EntriesAgree links (updateEntry link f entries) next := by
  refine h.map (fun e => ?_) (fun e ⟨hcount, herror⟩ => ?_) (List.subset_cons_self _ _)
  · split
    · exact (hf e).1
    · rfl
  · obtain ⟨hid, hdown, hword⟩ := hf e
    split
    · rename_i he
      refine ⟨?_, hword herror⟩
      rw [hdown, hcount, hid, he, List.count_cons_self, Nat.add_sub_cancel]
    · rename_i he
      exact ⟨hcount.trans (List.count_cons_of_ne (Ne.symm he)), herror⟩

/-- READ MOPs have been cancelled (R85, R103). -/
theorem EntriesAgree.cancel {cancelled : List Mop} (h : EntriesAgree (linksOf cancelled ++ links) entries next) :
    EntriesAgree links (failEntries cancelled entries) next := by
  refine h.map (fun e => ?_) (fun e ⟨hcount, herror⟩ => ?_) (List.subset_append_right _ _)
  · dsimp only
    split <;> rfl
  · rw [List.count_append, count_linksOf] at hcount
    dsimp only
    split
    · rename_i hnone
      exact ⟨by rw [hcount, hnone, Nat.zero_add], herror⟩
    · refine ⟨?_, fun _ => rfl⟩
      simp only [Entry.fail, hcount, Nat.add_sub_cancel_left]

/-- A read gets its entry, which waits on the MOPs of the read (R51, R127). -/
theorem EntriesAgree.push (h : EntriesAgree links entries next) (n : Nat) (error : Bool) :
    EntriesAgree (links ++ List.replicate n next)
      (entries ++ [{ id := next, word := 0#32, outstanding := n, error := error }]) (next + 1) := by
  obtain ⟨horder, hexact, hfound⟩ := h
  refine ⟨?_, ?_, ?_⟩
  · rw [List.map_append]
    exact horder.append ⟨List.pairwise_singleton _ _, by simp⟩ (by simp) (Nat.le_succ next)
  · rw [List.forall_mem_append, List.forall_mem_singleton]
    refine ⟨fun e he => ⟨?_, (hexact e he).2⟩, ?_, fun _ => rfl⟩
    · have hold : e.id < next := horder.2 _ (List.mem_map_of_mem he)
      rw [List.count_append, List.count_replicate, if_neg (by simpa using hold.ne'), Nat.add_zero, (hexact e he).1]
    · have hnew : next ∉ links := fun hlink => (horder.2 _ (hfound hlink)).false
      rw [List.count_append, List.count_eq_zero.2 hnew, List.count_replicate_self, Nat.zero_add]
  · rw [List.append_subset, List.map_append]
    refine ⟨fun link hlink => List.mem_append_left _ (hfound hlink), fun link hlink => ?_⟩
    rw [List.eq_of_mem_replicate hlink]
    exact List.mem_append_right _ (List.mem_singleton_self _)

/-- The head entry leaves when no READ MOP links to it any more (R83, R130). -/
theorem EntriesAgree.answer {e : Entry} (h : EntriesAgree links (e :: entries) next) (hdone : e.outstanding = 0) :
    EntriesAgree links entries next := by
  obtain ⟨horder, hexact, hfound⟩ := h
  refine ⟨horder.sublist (List.sublist_cons_self _ _), fun x hx => hexact x (List.mem_cons_of_mem _ hx), ?_⟩
  have hunlinked : e.id ∉ links := List.count_eq_zero.1 ((hexact e List.mem_cons_self).1.symm.trans hdone)
  intro link hlink
  refine (List.mem_cons.1 (hfound hlink)).resolve_left ?_
  rintro rfl
  exact hunlinked hlink

end Changes

end Sys2Proof.Proofs
end

section
/-! PROOF. Tags, MOPs and entries at the host side: what the MOPs of an access carry, and what a halt, a taken access
and an answered entry leave of the agreement. -/

namespace Sys2Proof.Proofs

open Sys2Proof.Machine Sys2Proof.Safety Sys2Proof.Claims

/-! ### States with the same MOPs, entries and tags -/

/-- MOPs, entries, their next numbers and the tags are the same in both states. -/
structure SameReads (s t : State) : Prop where
  mops : t.oq.mops = s.oq.mops
  nextMop : t.oq.nextId = s.oq.nextId
  entries : t.hsp.entries = s.hsp.entries
  nextEntry : t.hsp.nextId = s.hsp.nextId
  tag : t.tag = s.tag

theorem tag_of_msp {s t : State} (h : t.msp = s.msp) : t.tag = s.tag := funext fun u => by simp only [State.tag, h]

theorem readsSound_iff (s : State) :
    ReadsSound s ↔ TagsAgree s.oq.mops s.oq.nextId s.tag
      ∧ EntriesAgree (linksOf s.oq.mops) s.hsp.entries s.hsp.nextId := by
  rw [ReadsSound, tagsSound_iff, entriesExact_iff]

theorem SameReads.readsSound {s t : State} (h : SameReads s t) (hs : ReadsSound s) : ReadsSound t := by
  rw [readsSound_iff] at hs ⊢
  rwa [h.mops, h.nextMop, h.entries, h.nextEntry, h.tag]

theorem creationOrder_of_readsSound {s : State} (hs : ReadsSound s) : CreationOrder s := hs.1.1

theorem tag_withTag_update (s : State) (t : Fin 8) (x : Tag) : (s.withTag t x).tag = Function.update s.tag t x :=
  funext fun u => by simp only [tag_withTag, Function.update_apply, eq_comm]

theorem tag_issueMop (m : Mop) (t : Fin 8) (p : Phase) (s : State) :
    (issueMop m t p s).tag = Function.update s.tag t (.outstanding m.id p (newDeadline s.msp) m.block) :=
  tag_withTag_update s t _

@[simp] theorem pushEntry_msp (a : Access) (n : Nat) (error : Bool) (s : State) :
    (pushEntry a n error s).msp = s.msp := by
  obtain ⟨-, h⟩ | ⟨-, h⟩ := pushEntry_cases a n error s <;> rw [h]

/-! ### Halts -/

/-- A halt cancels PENDING MOPs, which hold no tag, and takes them off the counts of their entries (R103). -/
theorem readsSound_haltWindow (i : Fin 16) {s : State} (hs : ReadsSound s) : ReadsSound (haltWindow i s) := by
  rw [readsSound_iff] at hs ⊢
  obtain ⟨htags, hentries⟩ := hs
  have hkept : ∀ (m : Mop) (t : Fin 8), m.tag = some t → (!m.cancelledBy i) = true := by
    intro m t ht
    have hstate : m.state ≠ .pending := fun h => by cases (tag_of_pending h).symm.trans ht
    simp [cancelledBy_eq, hstate]
  have hperm : (linksOf s.oq.mops).Perm
      (linksOf (s.oq.mops.filter fun m => m.cancelledBy i)
        ++ linksOf (s.oq.mops.filter fun m => !m.cancelledBy i)) := by
    rw [← linksOf_append]
    exact (List.filter_append_perm (fun m => Mop.cancelledBy m i) s.oq.mops).symm.filterMap Mop.link
  rw [haltWindow_mops, haltWindow_nextId, haltWindow_hsp, tag_of_msp (haltWindow_msp i s)]
  exact ⟨htags.cancel hkept, (hentries.perm hperm).cancel⟩

theorem readsSound_reportFault (r : FaultRecord) {s : State} (hs : ReadsSound s) : ReadsSound (reportFault r s) := by
  obtain ⟨-, h⟩ | ⟨i, -, h⟩ := reportFault_cases r s
  · rw [h]
    exact SameReads.readsSound (s := s) ⟨rfl, rfl, rfl, rfl, rfl⟩ hs
  · rw [h]
    exact readsSound_haltWindow i (SameReads.readsSound (s := s) ⟨rfl, rfl, rfl, rfl, rfl⟩ hs)

/-! ### MOPs that a taken access brings -/

/-- What a new MOP may carry: final bytes or a pixel list for a write, a link to the new entry for a read (R50, R51). -/
def NewContent (write : Bool) (link : Nat) : MopContent → Prop
  | .plain _ => write = true
  | .blend _ _ _ => write = true
  | .blended _ => False
  | .read l _ => write = false ∧ l = link

theorem newContent_cutWith {α : Type} {write : Bool} {link : Nat} {content : List (Nat × α) → MopContent}
    (h : ∀ l, NewContent write link (content l)) (mask : List (Nat × α) → BitVec 64) (items : List (Nat × α)) :
    ∀ p ∈ cutWith mask content items, NewContent write link p.content := by
  rw [cutWith, List.forall_mem_map]
  exact fun g _ => h g.2

theorem newContent_coverage {write : Bool} (h : write = true) (link : Nat) (f : PixelFormat) (fg : Word)
    (pixels : List (Nat × Nat)) : NewContent write link (coverageContent f fg pixels) := by
  unfold coverageContent
  split <;> exact h

theorem newContent_byteParts (link : Nat) (write : Bool) (bytes : List (Nat × Byte)) (sources : List (Nat × Nat)) :
    ∀ p ∈ if write then plainParts bytes else byteReadParts link sources, NewContent write link p.content := by
  cases write with
  | true => exact newContent_cutWith (content := fun l => .plain (byteData l)) (fun _ => rfl) byteMask bytes
  | false =>
    exact newContent_cutWith (content := fun l => .read link (.bytes (mapEntries l))) (fun _ => ⟨rfl, rfl⟩) byteMask
      sources

/-- A window makes parts only for the directions that its kind serves (R40, R61 to R65, R77). -/
theorem newContent_windowParts {w : Window} {a : Access} (h : w.staged.kind.serves a.write = true) (d : Surface)
    (link : Nat) : ∀ p ∈ windowParts w d link a, NewContent a.write link p.content := by
  unfold windowParts
  cases hkind : w.staged.kind with
  | direct => exact newContent_byteParts link a.write _ _
  | expand =>
    have hwrite : a.write = true := by simpa [hkind, Kind.serves] using h
    exact newContent_cutWith (content := fun l => .plain (byteData l)) (fun _ => hwrite) byteMask _
  | coverage =>
    have hwrite : a.write = true := by simpa [hkind, Kind.serves] using h
    exact newContent_cutWith (newContent_coverage hwrite link d.format _) (pixelMask d.format) _
  | matchKey =>
    have hread : a.write = false := by simpa [hkind, Kind.serves] using h
    exact newContent_cutWith (content := fun l => .read link (.bits (mapEntries l))) (fun _ => ⟨hread, rfl⟩)
      (pixelMask d.format) _

/-- The window of a transformed access serves its direction (R40). -/
theorem serves_of_transformed {wt : WindowTable} {a : Access} {i : Fin 16} (h : disposition wt a = .transformed i) :
    wt.windows[i.val].staged.kind.serves a.write = true := by
  unfold disposition at h
  split at h
  · cases h
  · split at h
    · cases h
    · split at h
      · rename_i hserves
        cases h
        exact hserves
      · cases h

theorem newContent_accessParts (s : State) (a : Access) :
    ∀ p ∈ accessParts s a, NewContent a.write s.hsp.nextId p.content := by
  unfold accessParts
  cases hd : disposition s.wt a with
  | passThrough => exact newContent_byteParts _ a.write _ _
  | transformed i =>
    dsimp only
    split
    · exact newContent_windowParts (serves_of_transformed hd) _ _
    · simp
  | wrongDirection | haltedRefusal => simp

/-- A MOP of an access is PENDING and carries what its part carries (R50). -/
theorem accessMops_new (s : State) (a : Access) :
    ∀ m ∈ accessMops s a, m.state = .pending ∧ NewContent a.write s.hsp.nextId m.content := by
  intro m hm
  obtain ⟨k, hk⟩ := List.mem_iff_getElem?.1 hm
  have hcontents := List.mem_map_of_mem (f := fun m : Mop => (m.block, m.mask, m.content)) hm
  rw [accessMops, mopsOfParts_map] at hcontents
  obtain ⟨p, hp, heq⟩ := List.mem_map.1 hcontents
  simp only [Prod.mk.injEq] at heq
  obtain ⟨-, -, hcontent⟩ := heq
  exact ⟨(mopsOfParts_getElem? _ _ _ _ k m hk).2.1, hcontent ▸ newContent_accessParts s a p hp⟩

theorem mopShape_of_new {m : Mop} {write : Bool} {link : Nat} (hstate : m.state = .pending)
    (hcontent : NewContent write link m.content) : MopShape m := by
  cases hc : m.content with
  | blended data => rw [hc] at hcontent; exact hcontent.elim
  | plain | blend | read => simp [MopShape, hc, hstate]

theorem link_of_new {m : Mop} {write : Bool} {link : Nat} (h : NewContent write link m.content) :
    m.link = if write then none else some link := by
  cases hc : m.content with
  | blended data => rw [hc] at h; exact h.elim
  | plain | blend =>
    rw [hc] at h
    cases h
    simp [Mop.link, hc]
  | read l map =>
    rw [hc] at h
    obtain ⟨rfl, rfl⟩ := h
    simp [Mop.link, hc]

/-- The links of the MOPs of an access: one for each MOP of a read, to the new entry (R51). -/
theorem linksOf_accessMops (s : State) (a : Access) :
    linksOf (accessMops s a) = if a.write then [] else List.replicate (accessMops s a).length s.hsp.nextId := by
  have hlinks : (accessMops s a).map Mop.link
      = List.replicate (accessMops s a).length (if a.write then none else some s.hsp.nextId) := by
    rw [List.eq_replicate_iff, List.length_map]
    refine ⟨rfl, ?_⟩
    rw [List.forall_mem_map]
    exact fun m hm => link_of_new (accessMops_new s a m hm).2
  have hmap : linksOf (accessMops s a) = ((accessMops s a).map Mop.link).filterMap id := by
    rw [List.filterMap_map]
    rfl
  rw [hmap, hlinks, List.filterMap_replicate]
  cases a.write <;> rfl

/-! ### The queue after a taken access -/

/-- The MOPs of an access stand behind the old ones, or its first MOP has merged into a PENDING tail (R49, R53). -/
theorem queueAfter_cases (s : State) (a : Access) :
    queueAfter s a = s.oq.mops ++ accessMops s a
      ∨ ∃ older tail m rest old new, s.oq.mops = older ++ [tail] ∧ accessMops s a = m :: rest
          ∧ tail.content = .plain old ∧ tail.state = .pending ∧ m.content = .plain new
          ∧ queueAfter s a = older ++ mergeTail tail m :: rest := by
  by_cases happart : ∀ m tail, (accessMops s a).head? = some m → ¬ TailTakes s.oq tail m
  · exact .inl (queueAfter_of_apart happart).1
  · push Not at happart
    obtain ⟨m, tail, hhead, htakes⟩ := happart
    obtain ⟨rest, hmops⟩ := List.head?_eq_some_iff.1 hhead
    have hqueue := (queueAfter_of_merge hmops htakes).1
    obtain ⟨hlast, ⟨old, hold⟩, hstate, ⟨new, hnew⟩, -⟩ := htakes
    exact .inr ⟨s.oq.mops.dropLast, tail, m, rest, old, new, (List.dropLast_append_getLast? tail hlast).symm, hmops,
      hold, hstate, hnew, hqueue⟩

/-- An access keeps the queue in creation order (R89). -/
theorem queueAfter_ascends {s : State} (h : IdsAscend (s.oq.mops.map Mop.id) s.oq.nextId) (a : Access) :
    IdsAscend ((queueAfter s a).map Mop.id) (s.oq.nextId + (accessMops s a).length) := by
  obtain ⟨old, created, hqueue, hold, hcreated, -⟩ := queueAfter_eq s a
  obtain ⟨hids, hyoung⟩ :=
    mopsOfParts_keys (accessTag s a) (BitVec.ofNat 32 (accessAddr a)) (accessParts s a) s.oq.nextId
  rw [← mopsOfParts_length (accessTag s a) (BitVec.ofNat 32 (accessAddr a)) (accessParts s a) s.oq.nextId] at hids
  rw [hqueue, List.map_append, map_id_of_keys hold]
  refine h.append (hids.sublist (hcreated.sublist.map _)) ?_ (Nat.le_add_right _ _)
  rw [List.forall_mem_map]
  exact fun m hm => (hyoung m (hcreated.subset hm)).1

theorem mem_append_of_tag {mops new : List Mop} (hnew : ∀ n ∈ new, n.state = .pending) {m : Mop} {t : Fin 8}
    (hm : m.tag = some t) : m ∈ mops ++ new ↔ m ∈ mops := by
  rw [List.mem_append, or_iff_left]
  intro hmem
  cases (tag_of_pending (hnew m hmem)).symm.trans hm

theorem tagsAgree_queueAfter {s : State} (h : TagsAgree s.oq.mops s.oq.nextId s.tag) (a : Access) :
    TagsAgree (queueAfter s a) (s.oq.nextId + (accessMops s a).length) s.tag := by
  have hpending : ∀ m ∈ accessMops s a, m.state = .pending := fun m hm => (accessMops_new s a m hm).1
  have hshape : ∀ m ∈ accessMops s a, MopShape m := fun m hm =>
    mopShape_of_new (accessMops_new s a m hm).1 (accessMops_new s a m hm).2
  obtain hqueue | ⟨older, tail, m, rest, old, new, hmops, haccess, hold, hstate, hnew, hqueue⟩ := queueAfter_cases s a
  · refine h.enter (queueAfter_ascends h.order a) ?_ fun t n hn => ?_
    · rw [hqueue]
      exact List.forall_mem_append.2 ⟨h.shape, hshape⟩
    · rw [hqueue, mem_append_of_tag hpending hn]
  · rw [haccess, List.forall_mem_cons] at hpending hshape
    have hmerged := mergeTail_plain hold hnew
    refine h.enter (queueAfter_ascends h.order a) ?_ fun t n hn => ?_
    · have holder := h.shape
      rw [hmops, List.forall_mem_append] at holder
      rw [hqueue, List.forall_mem_append, List.forall_mem_cons]
      exact ⟨holder.1, by simp [MopShape, hmerged, hstate], hshape.2⟩
    · have hnew : ∀ k ∈ mergeTail tail m :: rest, k.state = .pending :=
        List.forall_mem_cons.2 ⟨hstate, hpending.2⟩
      rw [hqueue, hmops, mem_append_of_tag hnew hn, mem_append_of_tag (List.forall_mem_singleton.2 hstate) hn]

/-- A merge joins two MOPs without a link (R53). -/
theorem linksOf_queueAfter (s : State) (a : Access) :
    linksOf (queueAfter s a) = linksOf s.oq.mops ++ linksOf (accessMops s a) := by
  obtain hqueue | ⟨older, tail, m, rest, old, new, hmops, haccess, hold, -, hnew, hqueue⟩ := queueAfter_cases s a
  · rw [hqueue, linksOf_append]
  · have hmerged : (mergeTail tail m).link = none := by rw [mergeTail_plain hold hnew]; rfl
    have htail : tail.link = none := by simp only [Mop.link, hold]
    have hfirst : m.link = none := by simp only [Mop.link, hnew]
    simp [hqueue, hmops, haccess, hmerged, htail, hfirst]

/-! ### Taken accesses and answers -/

theorem entriesAgree_pushEntry {links : List Nat} {s : State}
    (h : EntriesAgree links s.hsp.entries s.hsp.nextId) (a : Access) (n : Nat) (error : Bool) :
    EntriesAgree (links ++ if a.write then [] else List.replicate n s.hsp.nextId)
      (pushEntry a n error s).hsp.entries (pushEntry a n error s).hsp.nextId := by
  obtain ⟨hwrite, hpush⟩ | ⟨hread, hpush⟩ := pushEntry_cases a n error s
  · rw [hpush, hwrite, if_pos rfl, List.append_nil]
    exact h
  · rw [hpush, hread]
    exact h.push n error

/-- The MOPs of an access enter the queue together with the entry that waits on them (R50, R51). -/
theorem readsSound_admitted {s u : State} (hs : ReadsSound s) (a : Access) (hmops : u.oq.mops = queueAfter s a)
    (hnext : u.oq.nextId = s.oq.nextId + (accessMops s a).length) (hhsp : u.hsp = s.hsp) (hmsp : u.msp = s.msp) :
    ReadsSound (pushEntry a (accessMops s a).length false u) := by
  rw [readsSound_iff] at hs ⊢
  obtain ⟨htags, hentries⟩ := hs
  have hpushed := entriesAgree_pushEntry (s := u) (hhsp ▸ hentries) a (accessMops s a).length false
  rw [hhsp, ← linksOf_accessMops, ← linksOf_queueAfter] at hpushed
  rw [pushEntry_oq, hmops, hnext, tag_of_msp ((pushEntry_msp a _ _ u).trans hmsp)]
  exact ⟨tagsAgree_queueAfter htags a, hpushed⟩

/-- A refused read gets an entry that waits on nothing (R55, R56). -/
theorem readsSound_refused {s : State} (hs : ReadsSound s) (a : Access) (i : Fin 16) :
    ReadsSound (pushEntry a 0 true (claimRefused i s)) := by
  rw [readsSound_iff] at hs ⊢
  obtain ⟨htags, hentries⟩ := hs
  have hpushed := entriesAgree_pushEntry (s := claimRefused i s) hentries a 0 true
  rw [List.replicate_zero, ite_self, List.append_nil] at hpushed
  rw [pushEntry_oq, tag_of_msp (s := s) (pushEntry_msp a 0 true (claimRefused i s))]
  exact ⟨htags, hpushed⟩

theorem readsSound_takeAccess (a : Access) {s : State} (hs : ReadsSound s) : ReadsSound (takeAccess a s) := by
  unfold takeAccess
  split
  · exact readsSound_admitted hs a rfl rfl rfl rfl
  · exact readsSound_admitted hs a rfl rfl rfl rfl
  · exact readsSound_reportFault _ (readsSound_refused hs a _)
  · exact readsSound_refused hs a _

theorem readsSound_driveRequest (r : Option Access) {s : State} (hs : ReadsSound s) :
    ReadsSound (driveRequest r s) := by
  have hrequest : ∀ r, ReadsSound (setRequest r s) := fun r =>
    SameReads.readsSound (s := s) ⟨rfl, rfl, rfl, rfl, rfl⟩ hs
  cases r with
  | none => exact hrequest none
  | some a =>
    simp only [driveRequest, presentAccess]
    split
    · exact readsSound_takeAccess a (hrequest none)
    · exact hrequest (some a)

/-- The head entry leaves complete, with no READ MOP linked to it (R130). -/
theorem readsSound_answerHead {s : State} (hs : ReadsSound s) : ReadsSound (answerHead s) := by
  unfold answerHead
  split
  · exact hs
  · rename_i e rest hentries
    split
    · rename_i hcomplete
      rw [readsSound_iff, hentries] at hs
      obtain ⟨htags, hagree⟩ := hs
      exact (readsSound_iff _).2 ⟨htags, hagree.answer (of_decide_eq_true hcomplete)⟩
    · exact hs

end Sys2Proof.Proofs
end

section
/-! PROOF. Every step keeps tags, MOP states and response queue entries in agreement: at the memory side one event
changes a tag, the MOP that holds it and the entry of that MOP together, and the management port leaves MOPs and entries
alone. -/

namespace Sys2Proof.Proofs

open Sys2Proof.Machine Sys2Proof.Safety Sys2Proof.Claims

/-! ### Issues -/

/-- An issue binds a FREE tag to a MOP that holds none (R96, R114). -/
theorem tagsAgree_issue {older younger : List Mop} {m : Mop} {next : Nat} {tag : Fin 8 → Tag} {t : Fin 8} {p : Phase}
    (h : TagsAgree (older ++ m :: younger) next tag) (hfree : tag t = .free) (hphase : m.nextPhase = some p)
    (deadline : Option Nat) :
    TagsAgree (older ++ { m with state := issuedState t p } :: younger) next
      (Function.update tag t (.outstanding m.id p deadline m.block)) := by
  obtain ⟨hnone, hshape, htag, hissued⟩ := issued_of_nextPhase hphase t
  have hunheld := (h.held t).unheld (by rw [hfree]; rfl)
  rw [List.forall_mem_append, List.forall_mem_cons] at hunheld
  obtain ⟨holder, -, hyounger⟩ := hunheld
  refine h.replace rfl hshape (fun u _ => by simp [hnone]) (fun u hu => ?_) ⟨?_, ?_⟩
  · rw [htag]
    exact fun heq => hu (Option.some.inj heq).symm
  · intro id phase d block heq
    cases heq
    exact ⟨_, List.mem_append_right _ List.mem_cons_self, rfl, htag, rfl, hissued⟩
  · rw [List.forall_mem_append, List.forall_mem_cons]
    exact ⟨fun n hn hnt => absurd hnt (holder n hn), fun _ => ⟨p, deadline, rfl⟩,
      fun n hn hnt => absurd hnt (hyounger n hn)⟩

theorem readsSound_issueNext {s : State} (hs : ReadsSound s) : ReadsSound (issueNext s) := by
  obtain h | ⟨m, t, p, hchoice, hphase, h⟩ := issueNext_cases s
  · rwa [h]
  · obtain ⟨holdest, hlowest⟩ := issueChoice_some hchoice
    obtain ⟨older, younger, hmops, -⟩ := oldestEligible_some holdest
    have hissued : (issueMop m t p s).oq.mops = older ++ { m with state := issuedState t p } :: younger :=
      updateMop_of_split (creationOrder_of_readsSound hs) hmops fun x => { x with state := issuedState t p }
    rw [readsSound_iff, hmops] at hs
    obtain ⟨htags, hentries⟩ := hs
    rw [h, readsSound_iff, hissued, tag_issueMop, issueMop_hsp,
      linksOf_replace (m := m) (m' := { m with state := issuedState t p }) rfl]
    exact ⟨tagsAgree_issue htags (lowestFreeTag_free hlowest) hphase _, hentries⟩

/-! ### Responses and expiries -/

/-- The MOP of an OUTSTANDING tag (R113, R114). -/
theorem boundMop_of_outstanding {s : State} (hs : ReadsSound s) {t : Fin 8} {id : Nat} {p : Phase}
    {deadline : Option Nat} {block : Word} (h : s.tag t = .outstanding id p deadline block) :
    ∃ m ∈ s.oq.mops, m.tag = some t ∧ outstandingPhase m = some p
      ∧ s.tag t = .outstanding m.id p deadline m.block := by
  obtain ⟨⟨-, -, hbound, -⟩, -⟩ := hs
  obtain ⟨m, hm, rfl, ht, rfl, hphase⟩ := hbound t id p deadline block h
  exact ⟨m, hm, ht, hphase, h⟩

theorem readsSound_retag {s : State} (hs : ReadsSound s) {t : Fin 8} {x : Tag}
    (ht : (s.tag t).isOutstanding = false) (hx : x.isOutstanding = false) : ReadsSound (s.withTag t x) := by
  rw [readsSound_iff] at hs ⊢
  obtain ⟨htags, hentries⟩ := hs
  rw [tag_withTag_update]
  exact ⟨htags.retag ht hx, hentries⟩

/-- The entry of a MOP that leaves the queue counts down, where the MOP has one. -/
theorem entriesAgree_onLinkedEntry {s : State} {m : Mop} {links : List Nat}
    (h : EntriesAgree (m.link.toList ++ links) s.hsp.entries s.hsp.nextId) {f : Entry → Entry} (hf : CountsDown f) :
    EntriesAgree links (onLinkedEntry m f s).hsp.entries (onLinkedEntry m f s).hsp.nextId := by
  unfold onLinkedEntry
  cases hlink : m.link with
  | none => simpa [hlink] using h
  | some link =>
    rw [hlink] at h
    exact h.countDown hf

theorem linksOf_dropMop {mops : List Mop} {m : Mop} (hids : (mops.map Mop.id).Pairwise (· < ·)) (hm : m ∈ mops) :
    (linksOf mops).Perm (m.link.toList ++ linksOf (dropMop m.id mops)) := by
  rw [← linksOf_cons]
  exact (perm_dropMop hids hm).filterMap Mop.link

/-- In one event a tag stops being OUTSTANDING, the entry of its MOP counts down and the MOP leaves (R98, R100, R101,
R117). -/
theorem readsSound_retire {s : State} (hs : ReadsSound s) {m : Mop} (hm : m ∈ s.oq.mops) {t : Fin 8}
    (ht : m.tag = some t) {x : Tag} (hx : x.isOutstanding = false) {f : Entry → Entry} (hf : CountsDown f) :
    ReadsSound (removeMop m (onLinkedEntry m f (s.withTag t x))) := by
  rw [readsSound_iff] at hs ⊢
  obtain ⟨htags, hentries⟩ := hs
  have hmsp : (removeMop m (onLinkedEntry m f (s.withTag t x))).msp = (s.withTag t x).msp := by simp
  rw [removeMop_mops, removeMop_nextId, removeMop_hsp, onLinkedEntry_oq, tag_of_msp hmsp, tag_withTag_update]
  exact ⟨htags.retire hm ht hx,
    entriesAgree_onLinkedEntry (s := s.withTag t x) (hentries.perm (linksOf_dropMop htags.order.1 hm)) hf⟩

/-- The fetched block reaches its RMW_WRITE, which gives up its tag (R70, R99). -/
theorem readsSound_combine {s : State} (hs : ReadsSound s) {m : Mop} (hm : m ∈ s.oq.mops) {t : Fin 8}
    (ht : m.tag = some t) (hfetch : outstandingPhase m = some .fetch) (data : Block) :
    ReadsSound ((s.withTag t .free).withMops (updateMop m.id (combinedMop data) s.oq.mops)) := by
  have horder := creationOrder_of_readsSound hs
  obtain ⟨hid, hshape, hnone, hlink⟩ := combinedMop_of_fetch hfetch data
  obtain ⟨older, younger, hmops⟩ := List.append_of_mem hm
  obtain ⟨holder, hyounger⟩ := id_ne_of_creationOrder horder hmops
  rw [updateMop_of_split horder hmops]
  rw [readsSound_iff, hmops] at hs
  obtain ⟨htags, hentries⟩ := hs
  have hmem : m ∈ older ++ m :: younger := List.mem_append_right _ List.mem_cons_self
  have hunheld : ∀ n ∈ older ++ m :: younger, n.id ≠ m.id → n.tag ≠ some t := fun n hn hne hnt =>
    hne ((htags.held t).unique hn hnt hmem ht)
  rw [readsSound_iff]
  refine ⟨?_, ?_⟩
  · show TagsAgree (older ++ combinedMop data m :: younger) s.oq.nextId (s.withTag t .free).tag
    rw [tag_withTag_update]
    refine htags.replace hid hshape (fun u hu => ?_) (fun u _ => by simp [hnone]) (tagHeld_of_unheld rfl ?_)
    · rw [ht]
      exact fun heq => hu (Option.some.inj heq).symm
    · rw [List.forall_mem_append, List.forall_mem_cons]
      exact ⟨fun n hn => hunheld n (List.mem_append_left _ hn) (holder n hn), by simp [hnone],
        fun n hn => hunheld n (List.mem_append_right _ (List.mem_cons_of_mem _ hn)) (hyounger n hn)⟩
  · show EntriesAgree (linksOf (older ++ combinedMop data m :: younger)) s.hsp.entries s.hsp.nextId
    rwa [linksOf_replace hlink]

theorem readsSound_deliverOk {s : State} (hs : ReadsSound s) {m : Mop} (hm : m ∈ s.oq.mops) {t : Fin 8} {p : Phase}
    (ht : m.tag = some t) (hphase : outstandingPhase m = some p) (data : Block) :
    ReadsSound (deliverOk m p data (s.withTag t .free)) := by
  cases p with
  | write =>
    have hretired := readsSound_retire hs hm ht (x := .free) rfl (f := fun e => e.fail 1) countsDown_fail
    rwa [onLinkedEntry, link_of_write hphase] at hretired
  | fetch => exact readsSound_combine hs hm ht hphase data
  | read => exact readsSound_retire hs hm ht rfl (countsDown_supply _)

theorem readsSound_acceptResponse (t : Fin 8) (st : RespStatus) (data : Block) {s : State} (hs : ReadsSound s) :
    ReadsSound (acceptResponse t st data s) := by
  cases htag : s.tag t with
  | free =>
    simp only [acceptResponse, htag]
    exact readsSound_reportFault _ hs
  | quarantined p block =>
    simp only [acceptResponse, htag]
    exact readsSound_reportFault _ (readsSound_retag hs (by rw [htag]; rfl) rfl)
  | outstanding id p deadline block =>
    obtain ⟨m, hm, ht, hphase, hbound⟩ := boundMop_of_outstanding hs htag
    have horder := creationOrder_of_readsSound hs
    cases st with
    | ok =>
      rw [acceptResponse_ok horder hm hbound]
      exact readsSound_deliverOk hs hm ht hphase data
    | err =>
      rw [acceptResponse_err horder hm hbound]
      exact readsSound_reportFault _ (readsSound_retire hs hm ht rfl countsDown_fail)

theorem readsSound_expireTag (t : Fin 8) {s : State} (hs : ReadsSound s) : ReadsSound (expireTag t s) := by
  obtain h | ⟨id, p, d, block, htag, h⟩ := expireTag_cases t s
  · rwa [h]
  · obtain ⟨m, hm, ht, -, hbound⟩ := boundMop_of_outstanding hs htag
    have hid : id = m.id := (Tag.outstanding.inj (htag.symm.trans hbound)).1
    have hfound : findMop m.id (s.withTag t (.quarantined p block)).oq.mops = some m :=
      findMop_of_mem (s := s) (creationOrder_of_readsSound hs) hm
    rw [h, hid]
    simp only [timeOutMop, hfound]
    exact readsSound_reportFault _ (readsSound_retire hs hm ht rfl countsDown_fail)

theorem readsSound_clockTo (now : Nat) {s : State} (hs : ReadsSound s) : ReadsSound (clockTo now s) :=
  SameReads.readsSound (s := s) ⟨rfl, rfl, rfl, rfl, rfl⟩ hs

theorem readsSound_reachDeadline (t : Fin 8) {s : State} (hs : ReadsSound s) : ReadsSound (reachDeadline t s) := by
  unfold reachDeadline
  split
  · exact hs
  · exact readsSound_expireTag t (readsSound_clockTo _ hs)

theorem readsSound_expireIfDue (t : Fin 8) {s : State} (hs : ReadsSound s) : ReadsSound (expireIfDue t s) := by
  unfold expireIfDue
  split
  · exact hs
  · split
    · exact readsSound_expireTag t hs
    · exact hs

theorem readsSound_tick {s : State} (hs : ReadsSound s) : ReadsSound (tick s) := by
  have hfold : ∀ (l : List (Fin 8)) (u : State), ReadsSound u →
      ReadsSound (l.foldl (fun s t => expireIfDue t s) u) := by
    intro l
    induction l with
    | nil => exact fun _ hu => hu
    | cons t rest ih => exact fun u hu => ih _ (readsSound_expireIfDue t hu)
  exact hfold _ _ (readsSound_clockTo _ hs)

/-! ### Management commands -/

/-- A move of the management port leaves MOPs, entries and their numbers as they are. -/
theorem PortMove.queues {s t : State} (h : PortMove s t) :
    t.oq.mops = s.oq.mops ∧ t.oq.nextId = s.oq.nextId ∧ t.hsp = s.hsp := by
  cases h with
  | tables _ hstay =>
    obtain ⟨hoq, hhsp, -⟩ := hstay
    rw [hoq]
    exact ⟨rfl, rfl, hhsp⟩
  | configure | acknowledge | recover | pop | fenceAtOnce | fencePlaced => exact ⟨rfl, rfl, rfl⟩

/-! ### Tags under management commands -/

theorem setSurfaceReply_msp (p : SurfaceParams) (s : State) : (setSurfaceReply p s).state.msp = s.msp := by
  unfold setSurfaceReply
  repeat' split
  all_goals rfl

theorem dropSurfaceReply_msp (index : Byte) (s : State) : (dropSurfaceReply index s).state.msp = s.msp := by
  unfold dropSurfaceReply
  repeat' split
  all_goals rfl

theorem readSurfaceReply_msp (index : Byte) (s : State) : (readSurfaceReply index s).state.msp = s.msp := by
  unfold readSurfaceReply
  split <;> rfl

theorem setWindowReply_msp (p : WindowParams) (s : State) : (setWindowReply p s).state.msp = s.msp := by
  unfold setWindowReply
  repeat' split
  all_goals rfl

theorem openStaged_msp (i : Fin 16) (s : State) : (openStaged i s).state.msp = s.msp := by
  unfold openStaged
  split
  · rfl
  · split
    · rfl
    · dsimp only
      repeat' split
      all_goals rfl

theorem openWindowReply_msp (index : Byte) (s : State) : (openWindowReply index s).state.msp = s.msp := by
  unfold openWindowReply
  split
  · rfl
  · split
    · rfl
    · exact openStaged_msp _ s

theorem closeOpen_msp (i : Fin 16) (s : State) : (closeOpen i s).msp = s.msp := by
  unfold closeOpen
  split <;> rfl

theorem closeWindowReply_msp (index : Byte) (s : State) : (closeWindowReply index s).state.msp = s.msp := by
  unfold closeWindowReply
  split
  · rfl
  · split
    · rfl
    · split
      · exact closeOpen_msp _ s
      · rfl

theorem resumeWindowReply_msp (index : Byte) (s : State) : (resumeWindowReply index s).state.msp = s.msp := by
  unfold resumeWindowReply
  repeat' split
  all_goals rfl

theorem readWindowReply_msp (index : Byte) (s : State) : (readWindowReply index s).state.msp = s.msp := by
  unfold readWindowReply
  split <;> rfl

theorem clearAllReply_msp (s : State) : (clearAllReply s).state.msp = s.msp := by
  unfold clearAllReply
  split
  · rfl
  · exact endClearAll_msp (startClearAll s)

theorem fenceReply_msp (s : State) : (fenceReply s).state.msp = s.msp := by
  unfold fenceReply
  repeat' split
  all_goals rfl

theorem popFaultReply_msp (s : State) : (popFaultReply s).state.msp = s.msp := by
  unfold popFaultReply
  split <;> rfl

theorem recoverTags_tag (s : State) (t : Fin 8) : (recoverTags s).tag t = (s.tag t).recovered := by
  simp [recoverTags, State.tag]

/-- Taking a command leaves every tag, or LINK_RECOVER frees the QUARANTINED ones (R122). -/
theorem takeCommand_tag (c : Instr) (s : State) :
    (takeCommand c s).tag = s.tag ∨ (takeCommand c s).tag = fun t => (s.tag t).recovered := by
  cases c with
  | linkRecover => exact .inr (funext (recoverTags_tag s))
  | setSurface p => exact .inl (tag_of_msp (setSurfaceReply_msp p s))
  | dropSurface k => exact .inl (tag_of_msp (dropSurfaceReply_msp k s))
  | readSurface k => exact .inl (tag_of_msp (readSurfaceReply_msp k s))
  | setWindow p => exact .inl (tag_of_msp (setWindowReply_msp p s))
  | openWindow i => exact .inl (tag_of_msp (openWindowReply_msp i s))
  | closeWindow i => exact .inl (tag_of_msp (closeWindowReply_msp i s))
  | resumeWindow i => exact .inl (tag_of_msp (resumeWindowReply_msp i s))
  | readWindow i => exact .inl (tag_of_msp (readWindowReply_msp i s))
  | clearAll => exact .inl (tag_of_msp (clearAllReply_msp s))
  | fence => exact .inl (tag_of_msp (fenceReply_msp s))
  | popFault => exact .inl (tag_of_msp (popFaultReply_msp s))
  | getStatus | configure | ackNotice | unknownCommand | requestHandshake | entryAnswered | issue | memoryResponse
  | expiry | smCsNFall | smCsNRise | resetNLow | resetNRelease | smSckRisingEdge => exact .inl rfl

/-- Taking a command leaves MOPs, entries and their numbers as they are. -/
theorem takeCommand_queues (c : Instr) (s : State) :
    (takeCommand c s).oq.mops = s.oq.mops ∧ (takeCommand c s).oq.nextId = s.oq.nextId
      ∧ (takeCommand c s).hsp = s.hsp := by
  obtain h | ⟨code, params, r, h, hmove⟩ := takeCommand_portMove c s
  · rw [h]
    exact ⟨rfl, rfl, rfl⟩
  · rw [h]
    exact hmove.queues

theorem readsSound_takeCommand (c : Instr) {s : State} (hs : ReadsSound s) : ReadsSound (takeCommand c s) := by
  obtain ⟨hmops, hnext, hhsp⟩ := takeCommand_queues c s
  rw [readsSound_iff] at hs ⊢
  obtain ⟨htags, hentries⟩ := hs
  rw [hmops, hnext, hhsp]
  refine ⟨?_, hentries⟩
  obtain htag | htag := takeCommand_tag c s
  · rwa [htag]
  · rw [htag]
    exact ⟨htags.order, htags.shape, fun t => (htags.held t).recovered⟩

theorem readsSound_withFrame (f : Frame) {s : State} (hs : ReadsSound s) : ReadsSound (s.withFrame f) :=
  SameReads.readsSound (s := s) ⟨rfl, rfl, rfl, rfl, rfl⟩ hs

theorem readsSound_completeCommandByte (code : Byte) {s : State} (hs : ReadsSound s) :
    ReadsSound (completeCommandByte code s) := by
  obtain ⟨-, h⟩ | h := completeCommandByte_cases code s
  · rw [h]
    exact readsSound_withFrame _ hs
  · rw [h]
    exact readsSound_takeCommand _ hs

theorem readsSound_clockEdge (di : Bool) {s : State} (hs : ReadsSound s) : ReadsSound (clockEdge di s) := by
  obtain ⟨f, h⟩ | ⟨c, h⟩ := clockEdge_cases di s
  · rw [h]
    exact readsSound_withFrame f hs
  · rw [h]
    exact readsSound_takeCommand c hs

/-! ### One step -/

theorem readsSound_unlessReset {f : State → State} {s : State} (hs : ReadsSound s)
    (hf : ReadsSound s → ReadsSound (f s)) : ReadsSound (unlessReset s f) := by
  unfold unlessReset
  split
  · exact hf hs
  · exact hs

theorem readsSound_holdInReset (s : State) : ReadsSound (holdInReset s) :=
  SameReads.readsSound (s := State.reset) ⟨rfl, rfl, rfl, rfl, rfl⟩ ⟨tagsSound_reset, entriesExact_reset⟩

/-- The management commands are those whose row takes the command at once. -/
theorem readsSound_management {c : Instr} {s t : State} (hs : ReadsSound s) (h : exec c s = .next t)
    (hc : exec c s = .next (unlessReset s (takeCommand c))) : ReadsSound t := by
  rw [hc] at h
  cases h
  exact readsSound_unlessReset hs (readsSound_takeCommand c)

theorem exec_readsSound {c : Instr} {s t : State} (h : exec c s = .next t) (hs : ReadsSound s) : ReadsSound t := by
  cases c with
  | requestHandshake r => cases h; exact readsSound_driveRequest r hs
  | entryAnswered => cases h; exact readsSound_unlessReset hs readsSound_answerHead
  | issue => cases h; exact readsSound_unlessReset hs readsSound_issueNext
  | memoryResponse k st data => cases h; exact readsSound_unlessReset hs (readsSound_acceptResponse k st data)
  | expiry k => cases h; exact readsSound_unlessReset hs (readsSound_reachDeadline k)
  | getStatus | configure | ackNotice | setSurface | dropSurface | readSurface | setWindow | openWindow | closeWindow
  | resumeWindow | readWindow | fence | popFault | linkRecover | clearAll => exact readsSound_management hs h rfl
  | unknownCommand code =>
    cases h
    refine readsSound_unlessReset hs fun hs => readsSound_completeCommandByte code ?_
    exact SameReads.readsSound (s := s) ⟨rfl, rfl, rfl, rfl, rfl⟩ hs
  | smSckRisingEdge di =>
    cases h
    refine readsSound_unlessReset hs fun hs => ?_
    split
    · exact hs
    · exact readsSound_clockEdge di hs
  | smCsNFall => cases h; unfold csFall; split <;> exact SameReads.readsSound (s := s) ⟨rfl, rfl, rfl, rfl, rfl⟩ hs
  | smCsNRise => cases h; unfold csRise; split <;> exact SameReads.readsSound (s := s) ⟨rfl, rfl, rfl, rfl, rfl⟩ hs
  | resetNLow => cases h; exact readsSound_holdInReset s
  | resetNRelease => cases h; exact SameReads.readsSound (s := s) ⟨rfl, rfl, rfl, rfl, rfl⟩ hs

/-- Settles O56, event by event: an issue and an access bind what they bring, a response and an expiry take a tag, its
MOP and the count of its entry together, a halt cancels MOPs without tags, and no management command touches a MOP. -/
theorem stepKeepsTagsAndEntriesExact : Obligations.StepKeepsTagsAndEntriesExact := by
  intro s t hs h
  unfold step at h
  split at h
  · cases h
    exact readsSound_unlessReset hs readsSound_tick
  · exact exec_readsSound h (SameReads.readsSound (s := s) ⟨rfl, rfl, rfl, rfl, rfl⟩ hs)

end Sys2Proof.Proofs
end

section
/-! PROOF. The law of issue over the older MOPs: when two MOPs overlap, when an older MOP lets a command be issued, and
which command a MOP may issue next. -/

namespace Sys2Proof.Proofs

open Sys2Proof.Machine Sys2Proof.Safety Sys2Proof.Claims

/-! ### One older MOP -/

theorem isIssued_iff (m : Mop) : m.isIssued = true ↔ ∃ t, m.state = .issued t := by
  unfold Mop.isIssued
  cases m.state <;> simp

/-- Two byte masks share a byte unless their conjunction is 0 (R92). -/
theorem masks_meet_iff (x y : BitVec 64) :
    x &&& y ≠ 0#64 ↔ ∃ k < 64, x.getLsbD k = true ∧ y.getLsbD k = true := by
  constructor
  · intro h
    by_contra hnone
    push Not at hnone
    refine h (BitVec.eq_of_getLsbD_eq fun k hk => ?_)
    have hbits : x.getLsbD k = true → y.getLsbD k = false := fun hx => by simpa using hnone k hk hx
    cases hx : x.getLsbD k with
    | false => simp [hx]
    | true => simp [hbits hx]
  · rintro ⟨k, -, hx, hy⟩ h
    have hbit := congrArg (·.getLsbD k) h
    simp [hx, hy] at hbit

theorem overlaps_iff (o m : Mop) :
    o.overlaps m = true
      ↔ o.block = m.block ∧ ∃ k < 64, o.mask.getLsbD k = true ∧ m.mask.getLsbD k = true := by
  simp only [Mop.overlaps, Bool.and_eq_true, decide_eq_true_eq, masks_meet_iff]

theorem letsWrite_iff (m o : Mop) :
    letsWrite m o = true
      ↔ (o.isWrite = true → o.isIssued = true)
        ∧ (o.isWrite = false → o.state = .pending → ¬ o.overlaps m = true) := by
  unfold letsWrite
  cases o.isWrite with
  | true => simp
  | false => by_cases hstate : o.state = .pending <;> simp [hstate]

theorem letsRead_iff (m o : Mop) :
    letsRead m o = true ↔ (o.isWrite = true → o.overlaps m = true → o.isIssued = true) := by
  unfold letsRead
  cases o.isWrite with
  | false => simp
  | true => cases o.overlaps m <;> simp

/-! ### All older MOPs -/

theorem eligible_write_iff {m : Mop} (h : m.nextPhase = some .write) (older : List Mop) :
    eligible older m = true ↔ ∀ o ∈ older, letsWrite m o = true := by
  simp only [eligible, h, List.all_eq_true]

theorem eligible_read_iff {m : Mop} (h : m.nextPhase = some .read ∨ m.nextPhase = some .fetch) (older : List Mop) :
    eligible older m = true ↔ ∀ o ∈ older, letsRead m o = true := by
  obtain h | h := h <;> simp only [eligible, h, List.all_eq_true]

theorem eligible_of_no_command {m : Mop} (h : m.nextPhase = none) (older : List Mop) : eligible older m = false := by
  simp only [eligible, h]

/-- Behind no older MOP every command is eligible (R97). -/
theorem eligible_at_head {m : Mop} {p : Phase} (h : m.nextPhase = some p) : eligible [] m = true := by
  cases p <;> simp [eligible, h]

/-! ### The next command -/

theorem nextPhase_write_iff (m : Mop) :
    m.nextPhase = some .write
      ↔ (∃ data, m.content = .plain data ∧ m.state = .pending)
        ∨ ∃ data, m.content = .blended data ∧ m.state = .ready := by
  unfold Mop.nextPhase
  cases m.content <;> cases m.state <;> simp

theorem nextPhase_fetch_iff (m : Mop) :
    m.nextPhase = some .fetch ↔ ∃ pixels fg f, m.content = .blend pixels fg f ∧ m.state = .pending := by
  unfold Mop.nextPhase
  cases m.content <;> cases m.state <;> simp

theorem nextPhase_read_iff (m : Mop) :
    m.nextPhase = some .read ↔ ∃ link map, m.content = .read link map ∧ m.state = .pending := by
  unfold Mop.nextPhase
  cases m.content <;> cases m.state <;> simp

/-- Settles O34: each clause is the test of one older MOP, or the row of Table 6-2 for one command. -/
theorem eligibilityFollowsOrderingLaw : Obligations.EligibilityFollowsOrderingLaw := by
  refine fun older m => ⟨fun hwrite => ?_, fun hread => ?_, fun hnone => eligible_of_no_command hnone older,
    nextPhase_write_iff m, nextPhase_fetch_iff m, nextPhase_read_iff m⟩
  · simp only [eligible_write_iff hwrite, letsWrite_iff, isIssued_iff, overlaps_iff]
  · simp only [eligible_read_iff hread, letsRead_iff, isIssued_iff, overlaps_iff]

end Sys2Proof.Proofs
end

section
/-! PROOF. Every step keeps the ordering law: what one step can do to the list of MOPs, said once, and what the issue of
an eligible command, a combine, a departure and an access leave of the law. A single queue move does not say that a
combine finds its MOP in FETCHING, without which the law would break, so the events are taken from states whose tags are
sound. -/

namespace Sys2Proof.Proofs

open Sys2Proof.Machine Sys2Proof.Safety Sys2Proof.Claims

/-! ### MOPs that leave -/

/-- From `s` to `t` MOPs leave the queue or none does, the rest keep their order, and no serial number is used. -/
def MopsLeave (s t : State) : Prop := t.oq.mops.Sublist s.oq.mops ∧ t.oq.nextId = s.oq.nextId

theorem MopsLeave.refl (s : State) : MopsLeave s s := ⟨List.Sublist.refl _, rfl⟩

theorem MopsLeave.trans {s t u : State} (h : MopsLeave s t) (h' : MopsLeave t u) : MopsLeave s u :=
  ⟨h'.1.trans h.1, h'.2.trans h.2⟩

theorem mopsLeave_of_oq {s t : State} (h : t.oq = s.oq) : MopsLeave s t := by
  rw [MopsLeave, h]
  exact MopsLeave.refl s

theorem mopsLeave_removeMop (m : Mop) (s : State) : MopsLeave s (removeMop m s) := by
  rw [MopsLeave, removeMop_mops, removeMop_nextId]
  exact ⟨List.filter_sublist, rfl⟩

theorem mopsLeave_haltWindow (i : Fin 16) (s : State) : MopsLeave s (haltWindow i s) := by
  rw [MopsLeave, haltWindow_mops, haltWindow_nextId]
  exact ⟨List.filter_sublist, rfl⟩

theorem mopsLeave_reportFault (r : FaultRecord) (s : State) : MopsLeave s (reportFault r s) := by
  obtain ⟨-, h⟩ | ⟨i, -, h⟩ := reportFault_cases r s
  · rw [h]; exact .refl s
  · rw [h]; exact mopsLeave_haltWindow i (s.withFu _)

theorem mopsLeave_linked_remove (m : Mop) (f : Entry → Entry) (s : State) :
    MopsLeave s (removeMop m (onLinkedEntry m f s)) :=
  (mopsLeave_of_oq (onLinkedEntry_oq m f s)).trans (mopsLeave_removeMop m _)

theorem mopsLeave_fail_report (r : FaultRecord) (m : Mop) (s : State) : MopsLeave s (reportFault r (failMop m s)) :=
  (mopsLeave_linked_remove m _ s).trans (mopsLeave_reportFault r _)

theorem mopsLeave_timeOutMop (t : Fin 8) (id : Nat) (p : Phase) (s : State) : MopsLeave s (timeOutMop t id p s) := by
  unfold timeOutMop
  split
  · exact .refl s
  · exact mopsLeave_fail_report _ _ s

theorem mopsLeave_expireTag (t : Fin 8) (s : State) : MopsLeave s (expireTag t s) := by
  obtain h | ⟨id, p, d, block, -, h⟩ := expireTag_cases t s
  · rw [h]; exact .refl s
  · rw [h]; exact mopsLeave_timeOutMop t id p (s.withTag t _)

theorem mopsLeave_reachDeadline (t : Fin 8) (s : State) : MopsLeave s (reachDeadline t s) := by
  unfold reachDeadline
  split
  · exact .refl s
  · exact mopsLeave_expireTag t (clockTo _ s)

theorem mopsLeave_expireIfDue (t : Fin 8) (s : State) : MopsLeave s (expireIfDue t s) := by
  unfold expireIfDue
  split
  · exact .refl s
  · split
    · exact mopsLeave_expireTag t s
    · exact .refl s

theorem mopsLeave_tick (s : State) : MopsLeave s (tick s) := by
  have hfold : ∀ (l : List (Fin 8)) (u : State), MopsLeave u (l.foldl (fun s t => expireIfDue t s) u) := by
    intro l
    induction l with
    | nil => exact .refl
    | cons t rest ih => exact fun u => (mopsLeave_expireIfDue t u).trans (ih _)
  exact (mopsLeave_of_oq (clockTo_oq (s.msp.clock + 1) s)).trans (hfold _ _)

theorem mopsLeave_takeCommand (c : Instr) (s : State) : MopsLeave s (takeCommand c s) := by
  obtain ⟨hmops, hnext, -⟩ := takeCommand_queues c s
  exact ⟨by rw [hmops], hnext⟩

theorem mopsLeave_completeCommandByte (code : Byte) (s : State) : MopsLeave s (completeCommandByte code s) := by
  obtain ⟨-, h⟩ | h := completeCommandByte_cases code s
  · rw [h]; exact .refl s
  · rw [h]; exact mopsLeave_takeCommand _ s

theorem mopsLeave_clockEdge (di : Bool) (s : State) : MopsLeave s (clockEdge di s) := by
  obtain ⟨f, h⟩ | ⟨c, h⟩ := clockEdge_cases di s
  · rw [h]; exact .refl s
  · rw [h]; exact mopsLeave_takeCommand c s

/-! ### What a step does to the list of MOPs -/

/-- A MOP whose command of this phase has been issued with this tag (R91, R96). -/
def issuedMop (k : Fin 8) (p : Phase) (m : Mop) : Mop := { m with state := issuedState k p }

/-- One event at the list of MOPs: some leave, one issues its command or takes its fetched block in its place of the
queue, an access brings some, or reset empties the queue. -/
inductive MopsEvent (s t : State) : Prop where
  | leave : MopsLeave s t → MopsEvent s t
  /-- An issue event (R96). -/
  | issue (older younger : List Mop) (m : Mop) (p : Phase) (k : Fin 8) :
      s.oq.mops = older ++ m :: younger → m.nextPhase = some p → eligible older m = true →
      t.oq.mops = older ++ issuedMop k p m :: younger → t.oq.nextId = s.oq.nextId → MopsEvent s t
  /-- The combine of an RMW_WRITE in FETCHING with its block (R70, R99). -/
  | combine (older younger : List Mop) (m : Mop) (data : Block) :
      s.oq.mops = older ++ m :: younger → outstandingPhase m = some .fetch →
      t.oq.mops = older ++ combinedMop data m :: younger → t.oq.nextId = s.oq.nextId → MopsEvent s t
  /-- A taken access (R50, R53). -/
  | enter (a : Access) :
      t.oq.mops = queueAfter s a → t.oq.nextId = s.oq.nextId + (accessMops s a).length → MopsEvent s t
  /-- Pin reset (R109). -/
  | reset : t.oq = OrderQueue.reset → MopsEvent s t

/-- The MOP of an OUTSTANDING tag is in the queue, in the phase of the tag (R113, R114). -/
theorem boundMop_of_tagsSound {s : State} (hs : TagsSound s) {t : Fin 8} {id : Nat} {p : Phase}
    {deadline : Option Nat} {block : Word} (h : s.tag t = .outstanding id p deadline block) :
    ∃ m ∈ s.oq.mops, m.tag = some t ∧ outstandingPhase m = some p
      ∧ s.tag t = .outstanding m.id p deadline m.block := by
  obtain ⟨-, -, hbound, -⟩ := hs
  obtain ⟨m, hm, rfl, ht, rfl, hphase⟩ := hbound t id p deadline block h
  exact ⟨m, hm, ht, hphase, h⟩

theorem mopsEvent_issueNext {s : State} (horder : CreationOrder s) : MopsEvent s (issueNext s) := by
  obtain h | ⟨m, t, p, hchoice, hphase, h⟩ := issueNext_cases s
  · rw [h]; exact .leave (.refl s)
  · obtain ⟨older, younger, hmops, heligible⟩ := oldestEligible_some (issueChoice_some hchoice).1
    rw [h]
    exact .issue older younger m p t hmops hphase heligible
      (updateMop_of_split horder hmops (issuedMop t p)) rfl

theorem mopsEvent_deliverOk {s : State} (horder : CreationOrder s) {m : Mop} (hm : m ∈ s.oq.mops) {p : Phase}
    (hphase : outstandingPhase m = some p) (t : Fin 8) (data : Block) :
    MopsEvent s (deliverOk m p data (s.withTag t .free)) := by
  cases p with
  | write => exact .leave (mopsLeave_removeMop m (s.withTag t .free))
  | read => exact .leave (mopsLeave_linked_remove m _ (s.withTag t .free))
  | fetch =>
    obtain ⟨older, younger, hmops⟩ := List.append_of_mem hm
    exact .combine older younger m data hmops hphase (updateMop_of_split horder hmops _) rfl

theorem mopsEvent_acceptResponse {s : State} (hs : TagsSound s) (t : Fin 8) (st : RespStatus) (data : Block) :
    MopsEvent s (acceptResponse t st data s) := by
  cases htag : s.tag t with
  | free =>
    simp only [acceptResponse, htag]
    exact .leave (mopsLeave_reportFault _ s)
  | quarantined p block =>
    simp only [acceptResponse, htag]
    exact .leave (mopsLeave_reportFault _ (s.withTag t .free))
  | outstanding id p deadline block =>
    obtain ⟨m, hm, -, hphase, hbound⟩ := boundMop_of_tagsSound hs htag
    cases st with
    | ok =>
      rw [acceptResponse_ok hs.1 hm hbound]
      exact mopsEvent_deliverOk hs.1 hm hphase t data
    | err =>
      rw [acceptResponse_err hs.1 hm hbound]
      exact .leave (mopsLeave_fail_report _ m (s.withTag t .free))

theorem mopsLeave_refused (a : Access) (i : Fin 16) (s : State) :
    MopsLeave s (pushEntry a 0 true (claimRefused i s)) :=
  mopsLeave_of_oq (pushEntry_oq a 0 true (claimRefused i s))

theorem mopsEvent_takeAccess (a : Access) (s : State) : MopsEvent s (takeAccess a s) := by
  unfold takeAccess
  split
  · exact .enter a (by rw [pushEntry_oq]; rfl) (by rw [pushEntry_oq]; rfl)
  · exact .enter a (by rw [pushEntry_oq]; rfl) (by rw [pushEntry_oq]; rfl)
  · exact .leave ((mopsLeave_refused a _ s).trans (mopsLeave_reportFault _ _))
  · exact .leave (mopsLeave_refused a _ s)

/-- The request channel has no part in the list of MOPs. -/
theorem MopsEvent.of_setRequest {r : Option Access} {s t : State} (h : MopsEvent (setRequest r s) t) :
    MopsEvent s t := by
  cases h with
  | leave h => exact .leave h
  | issue older younger m p k hmops hphase heligible hissued hnext =>
    exact .issue older younger m p k hmops hphase heligible hissued hnext
  | combine older younger m data hmops hfetch hcombined hnext =>
    exact .combine older younger m data hmops hfetch hcombined hnext
  | enter a hqueue hnext => exact .enter a hqueue hnext
  | reset h => exact .reset h

theorem mopsEvent_unlessReset {s : State} {f : State → State} (h : MopsEvent s (f s)) :
    MopsEvent s (unlessReset s f) := by
  unfold unlessReset
  split
  · exact h
  · exact .leave (.refl s)

/-- The management commands are those whose row takes the command at once. -/
theorem mopsEvent_management {c : Instr} {s t : State} (h : exec c s = .next t)
    (hc : exec c s = .next (unlessReset s (takeCommand c))) : MopsEvent s t := by
  rw [hc] at h
  cases h
  exact mopsEvent_unlessReset (.leave (mopsLeave_takeCommand c s))

theorem exec_mopsEvent {c : Instr} {s t : State} (hs : TagsSound s) (h : exec c s = .next t) : MopsEvent s t := by
  have hstay : ∀ {u : State}, u.oq = s.oq → MopsEvent s u := fun hoq => .leave (mopsLeave_of_oq hoq)
  cases c with
  | requestHandshake r =>
    cases h
    cases r with
    | none => exact hstay rfl
    | some a =>
      simp only [driveRequest, presentAccess]
      split
      · exact (mopsEvent_takeAccess a (setRequest none s)).of_setRequest
      · exact hstay rfl
  | entryAnswered => cases h; exact mopsEvent_unlessReset (hstay (answerHead_oq s))
  | issue => cases h; exact mopsEvent_unlessReset (mopsEvent_issueNext hs.1)
  | memoryResponse k st data => cases h; exact mopsEvent_unlessReset (mopsEvent_acceptResponse hs k st data)
  | expiry k => cases h; exact mopsEvent_unlessReset (.leave (mopsLeave_reachDeadline k s))
  | getStatus | configure | ackNotice | setSurface | dropSurface | readSurface | setWindow | openWindow | closeWindow
  | resumeWindow | readWindow | fence | popFault | linkRecover | clearAll => exact mopsEvent_management h rfl
  | unknownCommand code =>
    cases h
    exact mopsEvent_unlessReset (.leave (mopsLeave_completeCommandByte code _))
  | smSckRisingEdge di =>
    cases h
    refine mopsEvent_unlessReset ?_
    split
    · exact hstay rfl
    · exact .leave (mopsLeave_clockEdge di s)
  | smCsNFall => cases h; unfold csFall; split <;> exact hstay rfl
  | smCsNRise => cases h; unfold csRise; split <;> exact hstay rfl
  | resetNLow => cases h; exact .reset rfl
  | resetNRelease => cases h; exact hstay rfl

/-! ### Pairs under the law -/

/-- A PENDING MOP may stand behind any other. -/
theorem orderedPair_of_pending (o : Mop) {m : Mop} (h : m.state = .pending) : OrderedPair o m := by
  have hissued : m.isIssued = false := by simp [Mop.isIssued, h]
  refine ⟨fun _ _ hm => ?_, fun _ _ _ => h, fun _ _ _ _ => hissued⟩
  rw [hissued] at hm
  cases hm

/-- A MOP with a command to issue is not issued, and is a write MOP unless the command is a read (R91, R92). -/
theorem kind_of_nextPhase {m : Mop} {p : Phase} (h : m.nextPhase = some p) :
    m.isIssued = false ∧ (m.isWrite = true ↔ p ≠ .read) := by
  cases p with
  | write =>
    obtain ⟨d, hcontent, hstate⟩ | ⟨d, hcontent, hstate⟩ := (nextPhase_write_iff m).1 h <;>
      simp [Mop.isIssued, Mop.isWrite, hcontent, hstate]
  | fetch =>
    obtain ⟨pixels, fg, f, hcontent, hstate⟩ := (nextPhase_fetch_iff m).1 h
    simp [Mop.isIssued, Mop.isWrite, hcontent, hstate]
  | read =>
    obtain ⟨link, map, hcontent, hstate⟩ := (nextPhase_read_iff m).1 h
    simp [Mop.isIssued, Mop.isWrite, hcontent, hstate]

/-- A MOP may stand behind an older one that lets it write (R93). -/
theorem orderedPair_of_letsWrite {o m : Mop} (h : letsWrite m o = true) : OrderedPair o m := by
  obtain ⟨hwrite, hapart⟩ := (letsWrite_iff m o).1 h
  exact ⟨fun hw _ _ => hwrite hw, fun hw _ hunissued => by simp [hwrite hw] at hunissued,
    fun hr hoverlap hpending _ => absurd hoverlap (hapart hr hpending)⟩

/-- A MOP that is not an issued write may stand behind an older one that lets it read (R94). -/
theorem orderedPair_of_letsRead {o m : Mop} (h : letsRead m o = true)
    (hquiet : m.isWrite = true → m.isIssued = false) : OrderedPair o m := by
  have hread := (letsRead_iff m o).1 h
  exact ⟨fun _ hw hissued => by simp [hquiet hw] at hissued,
    fun hw hoverlap hunissued => by simp [hread hw hoverlap] at hunissued, fun _ _ _ hw => hquiet hw⟩

/-- The issue of an eligible command keeps the law towards each older MOP (R93, R94). -/
theorem orderedPair_issued_younger {older : List Mop} {o m : Mop} {p : Phase} (hphase : m.nextPhase = some p)
    (heligible : eligible older m = true) (ho : o ∈ older) (k : Fin 8) : OrderedPair o (issuedMop k p m) := by
  obtain ⟨-, hkind⟩ := kind_of_nextPhase hphase
  cases p with
  | write =>
    exact orderedPair_of_letsWrite (m := issuedMop k .write m) ((eligible_write_iff hphase older).1 heligible o ho)
  | read =>
    exact orderedPair_of_letsRead (m := issuedMop k .read m) ((eligible_read_iff (.inl hphase) older).1 heligible o ho)
      fun hw => absurd rfl (hkind.1 hw)
  | fetch =>
    exact orderedPair_of_letsRead (m := issuedMop k .fetch m)
      ((eligible_read_iff (.inr hphase) older).1 heligible o ho) fun _ => rfl

/-- The issue of a command keeps the law towards each younger MOP, for which the older one had not been issued. -/
theorem orderedPair_issued_older {m y : Mop} {p : Phase} (hphase : m.nextPhase = some p) (h : OrderedPair m y)
    (k : Fin 8) : OrderedPair (issuedMop k p m) y := by
  obtain ⟨hwrites, hoverlaps, -⟩ := h
  obtain ⟨hunissued, -⟩ := kind_of_nextPhase hphase
  refine ⟨fun hw hy hissued => ?_, fun hw hoverlap _ => hoverlaps hw hoverlap hunissued, fun _ _ hpending => ?_⟩
  · simp [hwrites hw hy hissued] at hunissued
  · cases p <;> cases hpending

/-- The combine turns an RMW_WRITE in FETCHING into a READY one with the same bytes to write (R70, R99). -/
theorem combinedMop_fetching {m : Mop} (h : outstandingPhase m = some .fetch) (data : Block) :
    (∃ k, m.state = .fetching k) ∧ m.isWrite = true
      ∧ ∃ final, combinedMop data m = { m with content := .blended final, state := .ready } := by
  unfold outstandingPhase at h
  split at h
  case h_2 pixels fg f k hcontent hstate =>
    exact ⟨⟨k, hstate⟩, by simp [Mop.isWrite, hcontent], combine pixels fg f data, by simp only [combinedMop, hcontent]⟩
  all_goals cases h

/-- A combine keeps the law towards each older MOP: in FETCHING it is behind no unissued overlapping write (R94). -/
theorem orderedPair_combined_younger {o m : Mop} (hfetch : outstandingPhase m = some .fetch) (data : Block)
    (h : OrderedPair o m) : OrderedPair o (combinedMop data m) := by
  obtain ⟨⟨k, hstate⟩, -, final, hcombined⟩ := combinedMop_fetching hfetch data
  obtain ⟨-, hoverlaps, -⟩ := h
  rw [hcombined]
  refine ⟨fun _ _ hissued => ?_, fun hw hoverlap hunissued => ?_, fun _ _ _ _ => rfl⟩
  · cases hissued
  · cases hstate.symm.trans (hoverlaps hw hoverlap hunissued)

/-- A combine keeps the law towards each younger MOP: the older one stays an unissued write (R99). -/
theorem orderedPair_combined_older {m y : Mop} (hfetch : outstandingPhase m = some .fetch) (data : Block)
    (h : OrderedPair m y) : OrderedPair (combinedMop data m) y := by
  obtain ⟨⟨k, hstate⟩, hwrite, final, hcombined⟩ := combinedMop_fetching hfetch data
  obtain ⟨hwrites, hoverlaps, -⟩ := h
  have hunissued : m.isIssued = false := by simp only [Mop.isIssued, hstate]
  rw [hcombined]
  refine ⟨fun _ hy hissued => ?_, fun _ hoverlap _ => hoverlaps hwrite hoverlap hunissued, fun hread => ?_⟩
  · simp [hwrites hwrite hy hissued] at hunissued
  · cases hread

/-! ### The law over the queue -/

/-- One MOP changes in its place. -/
theorem pairwise_replace {R : Mop → Mop → Prop} {older younger : List Mop} {m m' : Mop}
    (h : (older ++ m :: younger).Pairwise R) (holder : ∀ o ∈ older, R o m → R o m')
    (hyounger : ∀ y, R m y → R m' y) : (older ++ m' :: younger).Pairwise R := by
  rw [List.pairwise_append, List.pairwise_cons] at h ⊢
  obtain ⟨hold, ⟨hm, hyoung⟩, hacross⟩ := h
  refine ⟨hold, ⟨fun y hy => hyounger y (hm y hy), hyoung⟩, fun o ho => ?_⟩
  rw [List.forall_mem_cons]
  exact ⟨holder o ho (hacross o ho m List.mem_cons_self), fun y hy => hacross o ho y (List.mem_cons_of_mem _ hy)⟩

/-- PENDING MOPs join at the young end. -/
theorem pairwise_orderedPair_append {older new : List Mop} (h : older.Pairwise OrderedPair)
    (hnew : ∀ n ∈ new, n.state = .pending) : (older ++ new).Pairwise OrderedPair :=
  List.pairwise_append.2 ⟨h, List.pairwise_of_forall_mem_list fun _ _ n hn => orderedPair_of_pending _ (hnew n hn),
    fun o _ n hn => orderedPair_of_pending o (hnew n hn)⟩

/-- The MOPs of an access, and the tail into which its first one merges, are PENDING (R50, R53). -/
theorem pairwise_orderedPair_queueAfter {s : State} (h : s.oq.mops.Pairwise OrderedPair) (a : Access) :
    (queueAfter s a).Pairwise OrderedPair := by
  have hpending : ∀ n ∈ accessMops s a, n.state = .pending := fun n hn => (accessMops_new s a n hn).1
  obtain hqueue | ⟨older, tail, m, rest, -, -, hmops, haccess, -, hstate, -, hqueue⟩ := queueAfter_cases s a
  · rw [hqueue]
    exact pairwise_orderedPair_append h hpending
  · rw [hmops] at h
    rw [haccess, List.forall_mem_cons] at hpending
    rw [hqueue]
    exact pairwise_orderedPair_append (h.sublist (List.sublist_append_left _ _))
      (List.forall_mem_cons.2 ⟨hstate, hpending.2⟩)

theorem orderSound_iff (s : State) :
    OrderSound s ↔ IdsAscend (s.oq.mops.map Mop.id) s.oq.nextId ∧ s.oq.mops.Pairwise OrderedPair := by
  rw [OrderSound, creationOrder_iff]

theorem MopsEvent.orderSound {s t : State} (h : MopsEvent s t) (hs : OrderSound s) : OrderSound t := by
  rw [orderSound_iff] at hs ⊢
  obtain ⟨hids, hpairs⟩ := hs
  cases h with
  | leave h =>
    obtain ⟨hsub, hnext⟩ := h
    rw [hnext]
    exact ⟨hids.sublist (hsub.map _), hpairs.sublist hsub⟩
  | issue older younger m p k hmops hphase heligible hissued hnext =>
    rw [hmops] at hids hpairs
    rw [hissued, hnext]
    exact ⟨by simpa [issuedMop] using hids,
      pairwise_replace hpairs (fun o ho _ => orderedPair_issued_younger hphase heligible ho k)
        fun y hy => orderedPair_issued_older hphase hy k⟩
  | combine older younger m data hmops hfetch hcombined hnext =>
    rw [hmops] at hids hpairs
    rw [hcombined, hnext]
    exact ⟨by simpa [(combinedMop_of_fetch hfetch data).1] using hids,
      pairwise_replace hpairs (fun _ _ => orderedPair_combined_younger hfetch data)
        fun _ => orderedPair_combined_older hfetch data⟩
  | enter a hqueue hnext =>
    rw [hqueue, hnext]
    exact ⟨queueAfter_ascends hids a, pairwise_orderedPair_queueAfter hpairs a⟩
  | reset h =>
    rw [h]
    exact ⟨⟨.nil, fun _ hid => by cases hid⟩, .nil⟩

/-- Settles O57, event by event: an issue is of an eligible command, a combine finds its MOP past PENDING, what an
access brings is PENDING, and MOPs that leave take their pairs with them. -/
theorem stepKeepsOrderingLaw : Obligations.StepKeepsOrderingLaw := by
  intro s t htags hs h
  unfold step at h
  split at h
  · cases h
    exact (mopsEvent_unlessReset (.leave (mopsLeave_tick s))).orderSound hs
  · rename_i c rest _
    exact (exec_mopsEvent (s := { s with pending := rest }) htags h).orderSound hs

end Sys2Proof.Proofs
end

section
/-! PROOF. Fences: those whose older MOPs have left complete in order at a removal, FENCE places, completes or refuses
one, and every step keeps the pending ones in order, numbered in order and behind an older MOP. -/

namespace Sys2Proof.Proofs

open Sys2Proof.Machine Sys2Proof.Safety Sys2Proof.Claims

/-! ### Completion -/

/-- The departure of a MOP from its window completes no fence. -/
theorem leaveTag_fenceDone (t : Option WindowTag) (s : State) :
    (leaveTag t s).fu.notices.fenceDone = s.fu.notices.fenceDone := by
  have hend : ∀ u : State, (endClearAll u).fu.notices.fenceDone = u.fu.notices.fenceDone := fun u => by
    obtain ⟨h, -⟩ | ⟨-, -, h⟩ := endClearAll_cases u <;> rw [h]
    rfl
  cases t with
  | none => rfl
  | some t =>
    obtain ⟨-, h⟩ | ⟨-, -, ⟨-, h⟩ | ⟨-, h⟩⟩ := leaveWindow_cases t.index s
    · rw [leaveTag, h]; rfl
    · rw [leaveTag, h]; rfl
    · rw [leaveTag, h, hend]; rfl

/-- Settles O44: the fences settle behind the removed MOP's departure, which touches no fence. -/
theorem fencesCompleteInOrder : Obligations.FencesCompleteInOrder := by
  intro s m h
  have hoq : (leaveTag m.window (s.withMops (dropMop m.id s.oq.mops))).oq
      = (s.withMops (dropMop m.id s.oq.mops)).oq := leaveTag_oq _ _
  refine fencesSettle_of_before (s' := leaveTag m.window (s.withMops (dropMop m.id s.oq.mops))) ?_ ?_ ?_
    (leaveTag_fenceDone _ _) (completeFences_settles ?_)
  · rw [hoq]; rfl
  · rw [hoq]; rfl
  · rw [hoq]; rfl
  · rw [hoq]; exact h

/-! ### FENCE -/

theorem exec_fence {s : State} (h : s.resetN = true) : exec .fence s = .next (answer 0x40#8 [] (fenceReply s)) :=
  congrArg Host.Outcome.next (unlessReset_of_high h takeFence)

theorem fenceReply_of_full {s : State} (h : Config.fenceCapacity ≤ s.oq.fences.length) :
    fenceReply s = refuse s .full :=
  if_pos h

theorem fenceReply_of_empty {s : State} (hroom : s.oq.fences.length < Config.fenceCapacity) (hempty : s.oq.mops = []) :
    fenceReply s = done (completeAtOnce s.oq.nextFence (useFenceNumber s)) [s.oq.nextFence] := by
  rw [fenceReply, if_neg (Nat.not_le.2 hroom)]
  split
  · rfl
  · rename_i hcons
    cases hempty.symm.trans hcons

theorem fenceReply_of_mops {s : State} (hroom : s.oq.fences.length < Config.fenceCapacity) (hmops : s.oq.mops ≠ []) :
    fenceReply s = done (placeFence s.oq.nextFence (useFenceNumber s)) [s.oq.nextFence] := by
  rw [fenceReply, if_neg (Nat.not_le.2 hroom)]
  split
  · rename_i hempty
    exact absurd hempty hmops
  · rfl

/-- Settles O17, by the fences pending and the MOPs in the queue. -/
theorem fencePlacesCompletesOrRefuses : Obligations.FencePlacesCompletesOrRefuses := by
  intro s hreset
  rw [exec_fence hreset]
  refine ⟨fun hfull => ?_, fun hroom hempty => ?_, fun hroom hmops => ?_⟩
  · rw [fenceReply_of_full hfull]; rfl
  · rw [fenceReply_of_empty hroom hempty]; rfl
  · rw [fenceReply_of_mops hroom hmops]; rfl

/-! ### Numbers of fences -/

/-- The numbers of pending fences are the last ones given out, in the order of the list (R105). -/
def Numbered (fences : List Fence) (next : Byte) : Prop :=
  ∀ k : Nat, ∀ f ∈ fences[k]?, f.number = next - BitVec.ofNat 8 (fences.length - k)

/-- The oldest fences leave. -/
theorem Numbered.suffix {completed waiting : List Fence} {next : Byte} (h : Numbered (completed ++ waiting) next) :
    Numbered waiting next := by
  intro k f hf
  have hplace : (completed ++ waiting)[completed.length + k]? = some f := by
    rw [List.getElem?_append_right (Nat.le_add_right _ _), Nat.add_sub_cancel_left]
    exact hf
  have hback : (completed ++ waiting).length - (completed.length + k) = waiting.length - k := by
    rw [List.length_append, Nat.add_sub_add_left]
  rw [h _ f hplace, hback]

/-- A fence with the next number joins at the young end. -/
theorem Numbered.place {fences : List Fence} {next : Byte} (h : Numbered fences next) (mark : Nat) :
    Numbered (fences ++ [{ number := next, mark := mark }]) (next + 1#8) := by
  intro k f hf
  have hk : k < fences.length + 1 := by
    simpa using (List.getElem?_eq_some_iff.1 hf).1
  have hlater : (fences ++ [(⟨next, mark⟩ : Fence)]).length - k = (fences.length - k) + 1 := by
    simp only [List.length_append, List.length_singleton]
    omega
  have hcount : next + 1#8 - BitVec.ofNat 8 (fences.length - k + 1) = next - BitVec.ofNat 8 (fences.length - k) := by
    rw [BitVec.ofNat_add]
    exact add_sub_add_right_eq_sub _ _ _
  rw [hlater, hcount]
  obtain hk | rfl := Nat.lt_succ_iff_lt_or_eq.1 hk
  · rw [List.getElem?_append_left hk] at hf
    exact h k f hf
  · simp only [List.getElem?_concat_length, Option.mem_def, Option.some.injEq] at hf
    subst hf
    simp

/-! ### Order of MOPs and fences -/

theorem fencesSound_iff (s : State) :
    FencesSound s
      ↔ s.oq.fences.Pairwise (fun a b => a.mark ≤ b.mark)
        ∧ (∀ f ∈ s.oq.fences, f.mark ≤ s.oq.nextId ∧ ∃ m ∈ s.oq.mops, m.id < f.mark)
        ∧ Numbered s.oq.fences s.oq.nextFence := Iff.rfl

/-- MOPs are in creation order and fences in placement order behind them: what FENCE needs to place one more. -/
def QueueOrdered (s : State) : Prop := CreationOrder s ∧ FencesSound s

theorem creationOrder_of_ids {s t : State} (hids : t.oq.mops.map Mop.id = s.oq.mops.map Mop.id)
    (hnext : t.oq.nextId = s.oq.nextId) (hs : CreationOrder s) : CreationOrder t := by
  rw [creationOrder_iff] at hs ⊢
  rwa [hids, hnext]

/-- The pending fences stay, and every serial number in the queue stays with them. -/
theorem fencesSound_of_ids {s t : State} (hids : s.oq.mops.map Mop.id ⊆ t.oq.mops.map Mop.id)
    (hnext : s.oq.nextId ≤ t.oq.nextId) (hfences : t.oq.fences = s.oq.fences)
    (hnumber : t.oq.nextFence = s.oq.nextFence) (hs : FencesSound s) : FencesSound t := by
  obtain ⟨horder, hbehind, hnumbered⟩ := (fencesSound_iff s).1 hs
  rw [fencesSound_iff, hfences, hnumber]
  refine ⟨horder, fun f hf => ?_, hnumbered⟩
  obtain ⟨hmark, m, hm, hlt⟩ := hbehind f hf
  obtain ⟨m', hm', hid⟩ := List.mem_map.1 (hids (List.mem_map_of_mem (f := Mop.id) hm))
  exact ⟨hmark.trans hnext, m', hm', hid ▸ hlt⟩

/-- Fences that settle leave the waiting ones, each behind an older MOP (R106). -/
theorem fencesSound_of_settle {s t : State} (h : FencesSettle s t) (hnext : t.oq.nextId = s.oq.nextId)
    (hs : FencesSound s) : FencesSound t := by
  obtain ⟨completed, waiting, hfences, hleft, -, hwaiting, hnumber, -⟩ := h
  obtain ⟨horder, hbehind, hnumbered⟩ := (fencesSound_iff s).1 hs
  rw [hfences] at horder hbehind hnumbered
  rw [fencesSound_iff, hleft, hnumber, hnext]
  exact ⟨(List.pairwise_append.1 horder).2.1,
    fun f hf => ⟨(hbehind f (List.mem_append_right _ hf)).1, hwaiting f hf⟩, hnumbered.suffix⟩

theorem queueOrdered_of_ids {s t : State} (hids : t.oq.mops.map Mop.id = s.oq.mops.map Mop.id)
    (hnext : t.oq.nextId = s.oq.nextId) (hfences : t.oq.fences = s.oq.fences)
    (hnumber : t.oq.nextFence = s.oq.nextFence) (hs : QueueOrdered s) : QueueOrdered t :=
  ⟨creationOrder_of_ids hids hnext hs.1,
    fencesSound_of_ids (hids ▸ List.Subset.refl _) hnext.ge hfences hnumber hs.2⟩

theorem queueOrdered_of_oq {s t : State} (h : t.oq = s.oq) (hs : QueueOrdered s) : QueueOrdered t :=
  queueOrdered_of_ids (by rw [h]) (by rw [h]) (by rw [h]) (by rw [h]) hs

theorem creationOrder_of_leave {s t : State} (h : MopsLeave s t) (hs : CreationOrder s) : CreationOrder t := by
  obtain ⟨hsub, hnext⟩ := h
  rw [creationOrder_iff] at hs ⊢
  rw [hnext]
  exact hs.sublist (hsub.map _)

/-- MOPs leave, and the fences settle in the same event (R102, R103, R106). -/
theorem queueOrdered_of_settle {s t : State} (hleave : MopsLeave s t)
    (hsettle : s.oq.fences.Pairwise (fun a b => a.mark ≤ b.mark) → FencesSettle s t) (hs : QueueOrdered s) :
    QueueOrdered t := by
  obtain ⟨horder, hfences⟩ := hs
  exact ⟨creationOrder_of_leave hleave horder, fencesSound_of_settle (hsettle hfences.1) hleave.2 hfences⟩

/-- An access adds MOPs behind all older ones and every fence. -/
theorem queueOrdered_of_enter {s t : State} {a : Access} (hmops : t.oq.mops = queueAfter s a)
    (hnext : t.oq.nextId = s.oq.nextId + (accessMops s a).length) (hfences : t.oq.fences = s.oq.fences)
    (hnumber : t.oq.nextFence = s.oq.nextFence) (hs : QueueOrdered s) : QueueOrdered t := by
  obtain ⟨horder, hsound⟩ := hs
  obtain ⟨old, created, hqueue, hold, -⟩ := queueAfter_eq s a
  refine ⟨?_, fencesSound_of_ids ?_ (hnext ▸ Nat.le_add_right _ _) hfences hnumber hsound⟩
  · rw [creationOrder_iff] at horder ⊢
    rw [hmops, hnext]
    exact queueAfter_ascends horder a
  · rw [hmops, hqueue, List.map_append, map_id_of_keys hold]
    exact List.subset_append_left _ _

/-! ### Every move keeps the order -/

theorem fencesSettle_haltWindow (i : Fin 16) {s : State} (h : s.oq.fences.Pairwise (fun a b => a.mark ≤ b.mark)) :
    FencesSettle s (haltWindow i s) :=
  fencesSettle_of_before (s' := haltedBeforeFences i s) rfl rfl rfl rfl (completeFences_settles h)

theorem QueueMove.queueOrdered {s t : State} (h : QueueMove s t) (hs : QueueOrdered s) : QueueOrdered t := by
  cases h with
  | elsewhere h => exact queueOrdered_of_oq h.oq hs
  | issue m t p _ _ =>
    exact queueOrdered_of_ids (s := s)
      (map_id_of_keys (updateMop_keys (f := issuedMop t p) (fun _ => rfl) m.id s.oq.mops)) rfl rfl rfl hs
  | combine m data _ =>
    exact queueOrdered_of_ids (s := s) (map_id_of_keys (updateMop_keys (combinedMop_key data) m.id s.oq.mops)) rfl rfl
      rfl hs
  | remove m _ => exact queueOrdered_of_settle (mopsLeave_removeMop m s) (fencesCompleteInOrder s m) hs
  | linked m f => exact queueOrdered_of_oq (onLinkedEntry_oq m f s) hs
  | answered => exact queueOrdered_of_oq (answerHead_oq s) hs
  | record r => exact hs
  | halt i _ => exact queueOrdered_of_settle (mopsLeave_haltWindow i s) (fencesSettle_haltWindow i) hs
  | pass a _ _ => exact queueOrdered_of_enter (s := s) (a := a) rfl rfl rfl rfl hs
  | serve i a _ _ _ => exact queueOrdered_of_enter (s := s) (a := a) rfl rfl rfl rfl hs
  | turnAway i => exact hs
  | push a n error _ => exact queueOrdered_of_oq (pushEntry_oq a n error s) hs

/-- A fence behind the MOPs of a queue in creation order (R105). -/
theorem fencesSound_placeFence {s : State} (hmops : s.oq.mops ≠ []) (horder : CreationOrder s) (hs : FencesSound s) :
    FencesSound (placeFence s.oq.nextFence (useFenceNumber s)) := by
  obtain ⟨hmarks, hbehind, hnumbered⟩ := (fencesSound_iff s).1 hs
  obtain ⟨m, hm⟩ := List.exists_mem_of_ne_nil _ hmops
  refine (fencesSound_iff _).2 ⟨?_, ?_, hnumbered.place s.oq.nextId⟩
  · exact List.pairwise_append.2 ⟨hmarks, List.pairwise_singleton _ _, fun f hf g hg => by
      rw [List.mem_singleton.1 hg]; exact (hbehind f hf).1⟩
  · exact List.forall_mem_append.2
      ⟨hbehind, List.forall_mem_singleton.2 ⟨le_rfl, m, hm, horder.2 m hm⟩⟩

/-- On an empty queue no fence is pending (R105). -/
theorem fences_eq_nil {s : State} (hmops : s.oq.mops = []) (hs : FencesSound s) : s.oq.fences = [] := by
  obtain ⟨-, hbehind, -⟩ := (fencesSound_iff s).1 hs
  refine List.eq_nil_iff_forall_not_mem.2 fun f hf => ?_
  obtain ⟨-, m, hm, -⟩ := hbehind f hf
  rw [hmops] at hm
  cases hm

theorem fencesSound_of_no_fences {s : State} (h : s.oq.fences = []) : FencesSound s := by
  simp [FencesSound, h]

theorem PortMove.queueOrdered {s t : State} (h : PortMove s t) (hs : QueueOrdered s) : QueueOrdered t := by
  obtain ⟨horder, hsound⟩ := hs
  cases h with
  | tables _ hstay => exact queueOrdered_of_oq hstay.1 ⟨horder, hsound⟩
  | configure | acknowledge | recover | pop => exact ⟨horder, hsound⟩
  | fenceAtOnce hmops =>
    exact ⟨horder, fencesSound_of_no_fences (fences_eq_nil (s := s) hmops hsound)⟩
  | fencePlaced _ hmops => exact ⟨horder, fencesSound_placeFence hmops horder hsound⟩

/-- Settles O58, move by move: where MOPs leave the fences settle, an access leaves every older MOP, and FENCE places
its marker behind all MOPs of the queue. -/
theorem stepKeepsFencesSound : Obligations.StepKeepsFencesSound :=
  fun _ _ horder hs h =>
    step_keeps_queues (P := QueueOrdered) (fun h => queueOrdered_of_oq h.oq) (fun h => h.queueOrdered)
      (fun h => h.queueOrdered) ⟨creationOrder_reset, fencesSound_reset⟩ h ⟨horder, hs⟩

end Sys2Proof.Proofs
end

section
/-! PROOF. Response timers: what the expiry of one tag leaves, the tags and the clock of a core clock period, and the
expiries of an idle step one after another. -/

namespace Sys2Proof.Proofs

open Sys2Proof.Machine Sys2Proof.Safety Sys2Proof.Claims

/-! ### One expiry -/

/-- The expiry of the tag of a MOP in the queue (R101, R117). -/
theorem expireTag_of_bound {s : State} {t : Fin 8} {m : Mop} {p : Phase} {d : Nat} (horder : CreationOrder s)
    (hm : m ∈ s.oq.mops) (htag : s.tag t = .outstanding m.id p (some d) m.block) :
    expireTag t s = timedOut t m p s := by
  have hfound : findMop m.id (s.withTag t (.quarantined p m.block)).oq.mops = some m := findMop_of_mem horder hm
  simp only [expireTag, htag, timeOutMop, hfound, failMop_eq]
  rfl

theorem exec_expiry {s : State} (h : s.resetN = true) (t : Fin 8) :
    exec (.expiry t) s = .next (reachDeadline t s) :=
  congrArg Host.Outcome.next (unlessReset_of_high h _)

/-- A timer runs for an OUTSTANDING tag with a deadline alone (R115). -/
theorem deadline?_eq_some_iff (x : Tag) (d : Nat) :
    x.deadline? = some d ↔ ∃ id p block, x = .outstanding id p (some d) block := by
  cases x <;> simp [Tag.deadline?]

theorem deadline?_eq_none_iff (x : Tag) :
    x.deadline? = none ↔ ∀ id p d block, x ≠ .outstanding id p (some d) block := by
  simp only [Option.eq_none_iff_forall_ne_some, ne_eq, deadline?_eq_some_iff, not_exists]
  exact ⟨fun h id p d block => h d id p block, fun h d id p block => h id p d block⟩

/-- Settles O39: the clock reaches the deadline and the bound MOP times out; without a timer nothing is reached. -/
theorem expiryQuarantinesItsTag : Obligations.ExpiryQuarantinesItsTag := by
  intro s t hreset
  rw [exec_expiry hreset]
  refine ⟨fun m p d horder hm htag => ?_, fun hnone => ?_⟩
  · have hdeadline : (s.tag t).deadline? = some d := by rw [htag]; rfl
    have hexpired : expireTag t (clockTo d s) = timedOut t m p (clockTo d s) :=
      expireTag_of_bound (s := clockTo d s) horder hm htag
    simp only [reachDeadline, hdeadline, hexpired]
    rfl
  · simp only [reachDeadline, (deadline?_eq_none_iff _).2 hnone]

/-! ### What an expiry leaves of tags and clock -/

theorem timeOutMop_msp (t : Fin 8) (id : Nat) (p : Phase) (s : State) : (timeOutMop t id p s).msp = s.msp := by
  unfold timeOutMop
  split
  · rfl
  · simp [failMop]

theorem timeOutMop_resetN (t : Fin 8) (id : Nat) (p : Phase) (s : State) :
    (timeOutMop t id p s).resetN = s.resetN := by
  unfold timeOutMop
  split
  · rfl
  · simp only [reportFault_resetN, failMop, removeMop_resetN, onLinkedEntry]
    split <;> rfl

/-- What the expiry of its timer makes of a tag (R117, Table 7-3). -/
def expiredTag : Tag → Tag
  | .outstanding _ p (some _) block => .quarantined p block
  | x => x

/-- An expiry changes its own tag alone of the memory side port, and no pin. -/
theorem expireTag_memorySide (t : Fin 8) (s : State) :
    (expireTag t s).msp = (s.withTag t (expiredTag (s.tag t))).msp ∧ (expireTag t s).resetN = s.resetN := by
  have hsame : ∀ x, s.tag t = x → (s.withTag t x).msp = s.msp := by
    rintro x rfl
    simp [State.withTag, State.tag]
  unfold expireTag
  split
  · rename_i id p d block htag
    rw [timeOutMop_msp, timeOutMop_resetN, htag]
    exact ⟨rfl, rfl⟩
  all_goals
    rename_i htag
    exact ⟨by rw [htag]; exact (hsame _ htag).symm, rfl⟩

theorem expireTag_tag (t k : Fin 8) (s : State) :
    (expireTag t s).tag k = if t = k then expiredTag (s.tag t) else s.tag k := by
  rw [tag_of_msp (expireTag_memorySide t s).1, tag_withTag]

theorem expireTag_clock (t : Fin 8) (s : State) : (expireTag t s).msp.clock = s.msp.clock := by
  rw [(expireTag_memorySide t s).1]
  rfl

/-! ### Tags that are due -/

/-- The timer of a tag has reached its deadline (R115). -/
def dueNow (s : State) (k : Fin 8) : Bool :=
  match (s.tag k).deadline? with
  | none => false
  | some d => d ≤ s.msp.clock

theorem dueNow_iff (s : State) (k : Fin 8) :
    dueNow s k = true ↔ ∃ id p d block, s.tag k = .outstanding id p (some d) block ∧ d ≤ s.msp.clock := by
  unfold dueNow
  split
  · rename_i h
    simp [(deadline?_eq_none_iff _).1 h]
  · rename_i d h
    obtain ⟨id, p, block, htag⟩ := (deadline?_eq_some_iff _ d).1 h
    simp [htag]

theorem expireIfDue_eq (k : Fin 8) (s : State) : expireIfDue k s = if dueNow s k then expireTag k s else s := by
  unfold expireIfDue dueNow
  cases (s.tag k).deadline? <;> simp

/-- The expiry of one tag makes no other due. -/
theorem dueNow_expireTag {t k : Fin 8} (h : t ≠ k) (s : State) : dueNow (expireTag t s) k = dueNow s k := by
  simp only [dueNow, expireTag_tag, if_neg h, expireTag_clock]

/-! ### Expiries one after another -/

/-- The timers of these tags expire, in the order of the list. -/
def expireAll (due : List (Fin 8)) (s : State) : State := due.foldl (fun v k => expireTag k v) s

@[simp] theorem expireAll_nil (s : State) : expireAll [] s = s := rfl

@[simp] theorem expireAll_cons (k : Fin 8) (due : List (Fin 8)) (s : State) :
    expireAll (k :: due) s = expireAll due (expireTag k s) := rfl

theorem expireAll_clock (due : List (Fin 8)) : ∀ s : State, (expireAll due s).msp.clock = s.msp.clock := by
  induction due with
  | nil => exact fun _ => rfl
  | cons k due ih => exact fun s => (ih _).trans (expireTag_clock k s)

theorem expireAll_tag (k : Fin 8) : ∀ (due : List (Fin 8)) (s : State), due.Nodup →
    (expireAll due s).tag k = if k ∈ due then expiredTag (s.tag k) else s.tag k
  | [], _, _ => rfl
  | t :: due, s, hnodup => by
    obtain ⟨hfresh, hnodup⟩ := List.nodup_cons.1 hnodup
    rw [expireAll_cons, expireAll_tag k due _ hnodup, expireTag_tag]
    by_cases hk : t = k
    · subst hk
      simp [hfresh]
    · simp [hk, Ne.symm hk]

/-- Of a list of tags those expire that are due at its beginning. -/
theorem expireIfDue_foldl : ∀ (l : List (Fin 8)) (s : State), l.Nodup →
    l.foldl (fun v k => expireIfDue k v) s = expireAll (l.filter (dueNow s)) s
  | [], _, _ => rfl
  | t :: l, s, hnodup => by
    obtain ⟨hfresh, hnodup⟩ := List.nodup_cons.1 hnodup
    have hlater : l.filter (dueNow (expireTag t s)) = l.filter (dueNow s) :=
      List.filter_congr fun k hk => dueNow_expireTag (fun h : t = k => hfresh (h ▸ hk)) s
    rw [List.foldl_cons, expireIfDue_eq]
    cases hdue : dueNow s t with
    | true => simp [expireIfDue_foldl l _ hnodup, hlater, hdue]
    | false => simp [expireIfDue_foldl l _ hnodup, hdue]

/-- Where the clock stands at the deadline already, EXPIRY is the expiry alone. -/
theorem reachDeadline_of_due {s : State} {k : Fin 8} (h : dueNow s k = true) : reachDeadline k s = expireTag k s := by
  obtain ⟨id, p, d, block, htag, hreached⟩ := (dueNow_iff s k).1 h
  have hdeadline : (s.tag k).deadline? = some d := by rw [htag]; rfl
  have hclock : clockTo d s = s := by simp only [clockTo, max_eq_left hreached]
  simp only [reachDeadline, hdeadline, hclock]

/-- Expiries of tags that are due are EXPIRY commands one after another. -/
theorem execAll_expiry : ∀ (due : List (Fin 8)) (s : State), due.Nodup → (∀ k ∈ due, dueNow s k = true) →
    s.resetN = true → execAll (due.map .expiry) s = .next (expireAll due s)
  | [], _, _, _, _ => rfl
  | t :: due, s, hnodup, hdue, hreset => by
    obtain ⟨hfresh, hnodup⟩ := List.nodup_cons.1 hnodup
    obtain ⟨hfirst, hrest⟩ := List.forall_mem_cons.1 hdue
    have hlater : ∀ k ∈ due, dueNow (expireTag t s) k = true := fun k hk => by
      rw [dueNow_expireTag (fun h : t = k => hfresh (h ▸ hk)) s]
      exact hrest k hk
    simp only [List.map_cons, execAll, exec_expiry hreset, reachDeadline_of_due hfirst, expireAll_cons]
    exact execAll_expiry due _ hnodup hlater ((expireTag_memorySide t s).2.trans hreset)

/-! ### The MOPs of expired tags -/

theorem tagsSound_reportFault (r : FaultRecord) {s : State} (hs : TagsSound s) : TagsSound (reportFault r s) := by
  have hkept : ∀ (i : Fin 16) (m : Mop) (t : Fin 8), m.tag = some t → (!m.cancelledBy i) = true := by
    intro i m t ht
    have hstate : m.state ≠ .pending := fun h => by cases (tag_of_pending h).symm.trans ht
    simp [cancelledBy_eq, hstate]
  obtain ⟨-, h⟩ | ⟨i, -, h⟩ := reportFault_cases r s
  · rw [h]
    exact hs
  · rw [tagsSound_iff] at hs
    rw [h, tagsSound_iff, haltWindow_mops, haltWindow_nextId, tag_of_msp (haltWindow_msp i _)]
    exact hs.cancel (hkept i)

theorem tagsSound_timedOut {s : State} (hs : TagsSound s) {k : Fin 8} {m : Mop} {p : Phase} (hm : m ∈ s.oq.mops)
    (hk : m.tag = some k) : TagsSound (timedOut k m p s) := by
  refine tagsSound_reportFault _ ?_
  rw [tagsSound_iff] at hs ⊢
  rw [removeMop_mops, removeMop_nextId, tag_of_msp (removeMop_msp m _)]
  show TagsAgree (dropMop m.id s.oq.mops) s.oq.nextId (s.withTag k (.quarantined p m.block)).tag
  rw [tag_withTag_update]
  exact hs.retire hm hk rfl

/-- In creation order a MOP of the queue is known by its serial number (R89). -/
theorem mop_eq_of_id {s : State} (horder : CreationOrder s) {m n : Mop} (hm : m ∈ s.oq.mops) (hn : n ∈ s.oq.mops)
    (hid : m.id = n.id) : m = n := by
  have hfound := findMop_of_mem horder hm
  rw [hid, findMop_of_mem horder hn] at hfound
  exact (Option.some.inj hfound).symm

/-- The timer of a tag runs for the command of this phase of this MOP in the queue (R113, R115). -/
def RunsFor (s : State) (k : Fin 8) (m : Mop) (p : Phase) : Prop :=
  m ∈ s.oq.mops ∧ ∃ d, s.tag k = .outstanding m.id p (some d) m.block

section Runs

variable {s : State} {k : Fin 8} {m : Mop} {p : Phase}

theorem RunsFor.expireTag_eq (h : RunsFor s k m p) (hs : TagsSound s) : expireTag k s = timedOut k m p s := by
  obtain ⟨hm, d, htag⟩ := h
  exact expireTag_of_bound hs.1 hm htag

theorem RunsFor.holds_tag (h : RunsFor s k m p) (hs : TagsSound s) : m.tag = some k := by
  obtain ⟨hm, d, htag⟩ := h
  obtain ⟨m', hm', ht, -, hbound⟩ := boundMop_of_tagsSound hs htag
  have hid : m.id = m'.id := (Tag.outstanding.inj (htag.symm.trans hbound)).1
  rwa [mop_eq_of_id hs.1 hm hm' hid]

theorem RunsFor.tagsSound (h : RunsFor s k m p) (hs : TagsSound s) : TagsSound (expireTag k s) := by
  rw [h.expireTag_eq hs]
  exact tagsSound_timedOut hs h.1 (h.holds_tag hs)

/-- The expiry of one tag leaves the MOP of another in the queue: that MOP still holds its tag. -/
theorem RunsFor.later {k' : Fin 8} {m' : Mop} {p' : Phase} (h : RunsFor s k m p) (hs : TagsSound s)
    (h' : RunsFor s k' m' p') (hne : k ≠ k') : RunsFor (expireTag k s) k' m' p' := by
  obtain ⟨hm', d, htag⟩ := h'
  have htag' : (expireTag k s).tag k' = .outstanding m'.id p' (some d) m'.block := by
    rw [expireTag_tag, if_neg hne, htag]
  obtain ⟨n, hn, -, -, hbound⟩ := boundMop_of_tagsSound (h.tagsSound hs) htag'
  have hid : m'.id = n.id := (Tag.outstanding.inj (htag'.symm.trans hbound)).1
  have hstays : n ∈ s.oq.mops := (mopsLeave_expireTag k s).1.subset hn
  rw [← mop_eq_of_id hs.1 hm' hstays hid] at hn
  exact ⟨hn, d, htag'⟩

end Runs

/-- Expiries in the order of their tags fail the MOPs of these tags one after another (R101, R117). -/
theorem expireAll_eq_timedOut : ∀ (due : List (Fin 8 × Mop × Phase)) (s : State), TagsSound s →
    (∀ k m p, (k, m, p) ∈ due → RunsFor s k m p) → due.Pairwise (fun x y => x.1 < y.1) →
    expireAll (due.map Prod.fst) s = due.foldl (fun v x => timedOut x.1 x.2.1 x.2.2 v) s
  | [], _, _, _, _ => rfl
  | (k, m, p) :: due, s, hs, hruns, hpairs => by
    obtain ⟨hfirst, hpairs⟩ := List.pairwise_cons.1 hpairs
    have hrun : RunsFor s k m p := hruns k m p List.mem_cons_self
    have hlater : ∀ k' m' p', (k', m', p') ∈ due → RunsFor (expireTag k s) k' m' p' := fun k' m' p' hmem =>
      hrun.later hs (hruns k' m' p' (List.mem_cons_of_mem _ hmem)) (hfirst _ hmem).ne
    calc expireAll (((k, m, p) :: due).map Prod.fst) s = expireAll (due.map Prod.fst) (expireTag k s) := rfl
      _ = due.foldl (fun v x => timedOut x.1 x.2.1 x.2.2 v) (expireTag k s) :=
        expireAll_eq_timedOut due _ (hrun.tagsSound hs) hlater hpairs
      _ = due.foldl (fun v x => timedOut x.1 x.2.1 x.2.2 v) (timedOut k m p s) := by rw [hrun.expireTag_eq hs]

/-! ### An idle step -/

/-- One core clock period has passed (R115). -/
def clockPeriod (s : State) : State := { s with msp := { s.msp with clock := s.msp.clock + 1 } }

theorem due_eq_dueNow (s : State) : Due s = dueNow (clockPeriod s) := by
  funext k
  have htag : (clockPeriod s).tag k = s.tag k := rfl
  unfold Due dueNow
  rw [htag]
  cases s.tag k with
  | free | quarantined => rfl
  | outstanding id p deadline block => cases deadline <;> rfl

theorem due_iff (s : State) (k : Fin 8) :
    Due s k = true ↔ ∃ id p d block, s.tag k = .outstanding id p (some d) block ∧ d ≤ s.msp.clock + 1 := by
  rw [due_eq_dueNow]
  exact dueNow_iff (clockPeriod s) k

/-- The tags whose timers expire in the next idle step, lowest first. -/
def dueTags (s : State) : List (Fin 8) := (List.finRange 8).filter (Due s)

theorem nodup_dueTags (s : State) : (dueTags s).Nodup := (List.nodup_finRange 8).filter _

theorem mem_dueTags (s : State) (k : Fin 8) : k ∈ dueTags s ↔ Due s k = true := by
  simp [dueTags]

/-- A core clock period is the clock's, and then the expiries of the tags due (R115, R117). -/
theorem tick_eq (s : State) : tick s = expireAll (dueTags s) (clockPeriod s) := by
  have hclock : clockTo (s.msp.clock + 1) s = clockPeriod s := by
    simp only [clockTo, clockPeriod, max_eq_right (Nat.le_succ s.msp.clock)]
  rw [tick, hclock, expireIfDue_foldl _ _ (List.nodup_finRange 8), dueTags, due_eq_dueNow]

theorem step_idle {s : State} (hpending : s.pending = []) (hreset : s.resetN = true) :
    step s = .next (expireAll (dueTags s) (clockPeriod s)) := by
  simp only [step, hpending, idle, unlessReset_of_high hreset, tick_eq]

/-- A list of MOPs with tags that are due, by tag, names every tag due. -/
theorem map_fst_eq_dueTags {s : State} (hs : TagsSound s) {due : List (Fin 8 × Mop × Phase)}
    (hpairs : due.Pairwise (fun x y => x.1 < y.1))
    (hdue : ∀ k m p, (k, m, p) ∈ due ↔
      m ∈ s.oq.mops ∧ ∃ d, s.tag k = .outstanding m.id p (some d) m.block ∧ d ≤ s.msp.clock + 1) :
    due.map Prod.fst = dueTags s := by
  refine List.Pairwise.eq_of_mem_iff (r := (· < ·)) (List.pairwise_map.2 hpairs)
    ((List.pairwise_lt_finRange 8).filter _) fun k => ?_
  rw [mem_dueTags, due_iff]
  constructor
  · intro hk
    obtain ⟨⟨k, m, p⟩, hmem, rfl⟩ := List.mem_map.1 hk
    obtain ⟨-, d, htag, hle⟩ := (hdue k m p).1 hmem
    exact ⟨m.id, p, d, m.block, htag, hle⟩
  · rintro ⟨id, p, d, block, htag, hle⟩
    obtain ⟨m, hm, -, -, hbound⟩ := boundMop_of_tagsSound hs htag
    exact List.mem_map.2 ⟨(k, m, p), (hdue k m p).2 ⟨hm, d, hbound, hle⟩, rfl⟩

/-- Settles O2: an idle step is the clock's period and the expiries of the tags due, each an EXPIRY and each the failure
of the MOP that the tag is bound to. -/
theorem idleStepExpiresDueTimers : Obligations.IdleStepExpiresDueTimers := by
  rintro s u hpending rfl
  refine ⟨fun hreset => ?_, fun hreset => ?_⟩
  · simp only [step, hpending, idle, unlessReset_of_low hreset]
  rw [step_idle hpending hreset]
  refine ⟨⟨_, rfl, ?_, fun k => ?_⟩, fun hnone => ?_, ?_, fun hs due hpairs hdue => ?_⟩
  · rw [expireAll_clock]
    rfl
  · rw [expireAll_tag k _ _ (nodup_dueTags s)]
    show (if k ∈ dueTags s then expiredTag (s.tag k) else s.tag k) = _
    simp only [mem_dueTags, Due]
    cases s.tag k with
    | free | quarantined => rfl
    | outstanding id p deadline block =>
      cases deadline with
      | none => rfl
      | some d => simp only [decide_eq_true_eq, expiredTag]
  · have hempty : dueTags s = [] := List.filter_eq_nil_iff.2 fun k _ hk => by
      obtain ⟨id, p, d, block, htag, hle⟩ := (due_iff s k).1 hk
      have := hnone k id p d block htag
      omega
    rw [hempty]
    rfl
  · refine (execAll_expiry (dueTags s) (clockPeriod s) (nodup_dueTags s) (fun k hk => ?_) hreset).symm
    rw [← due_eq_dueNow]
    exact (mem_dueTags s k).1 hk
  · have hruns : ∀ k m p, (k, m, p) ∈ due → RunsFor (clockPeriod s) k m p := fun k m p hmem => by
      obtain ⟨hm, d, htag, -⟩ := (hdue k m p).1 hmem
      exact ⟨hm, d, htag⟩
    rw [← map_fst_eq_dueTags hs hpairs hdue, expireAll_eq_timedOut due (clockPeriod s) hs hruns hpairs]
    rfl

end Sys2Proof.Proofs
end

section
/-! PROOF. The head of the queue has a command to issue or an outstanding one, and the status bytes of the device. -/

namespace Sys2Proof.Proofs

open Sys2Proof.Machine Sys2Proof.Safety Sys2Proof.Claims

/-! ### The oldest MOP -/

/-- A MOP in a state of its kind has a command to issue, or holds the tag of an outstanding one (R91). -/
theorem command_or_tag {m : Mop} (h : MopShape m) : (∃ p, m.nextPhase = some p) ∨ ∃ t, m.tag = some t := by
  cases hstate : m.state with
  | fetching t | issued t => exact .inr ⟨t, by simp only [Mop.tag, hstate]⟩
  | pending =>
    cases hcontent : m.content with
    | plain | blend | read => exact .inl (by simp [Mop.nextPhase, hcontent, hstate])
    | blended => simp [MopShape, hcontent, hstate] at h
  | ready =>
    cases hcontent : m.content with
    | blended => exact .inl (by simp [Mop.nextPhase, hcontent, hstate])
    | plain | blend | read => simp [MopShape, hcontent, hstate] at h

/-- With every tag FREE an issue event sends the command of the MOP at the head with tag 0 (R96, R114). -/
theorem issueNext_at_head {s : State} {m : Mop} {rest : List Mop} {p : Phase} (hmops : s.oq.mops = m :: rest)
    (hphase : m.nextPhase = some p) (hfree : ∀ t, s.tag t = .free) : issueNext s = issueMop m 0 p s := by
  refine issueNext_of_choice ?_ ((lowestFreeTag_eq_some_iff s 0).2 ⟨hfree 0, fun u hu => ?_⟩) hphase
  · rw [hmops]
    exact oldestEligible_of_split (older := []) (fun a x b h => by simp at h) (eligible_at_head hphase)
  · exact absurd hu (Fin.not_lt_zero u)

/-- Settles O35, by whether the head holds a tag: it then has an outstanding command, and else one to issue. -/
theorem oldestMopIsNeverStuck : Obligations.OldestMopIsNeverStuck := by
  rintro s m rest hreset ⟨-, hshape, -, hheld⟩ hmops
  have hm : m ∈ s.oq.mops := hmops ▸ List.mem_cons_self
  obtain ⟨p, hphase⟩ | ⟨t, ht⟩ := command_or_tag (hshape m hm)
  · refine ⟨.inl (eligible_at_head hphase), fun hfree => ?_⟩
    rw [exec_issue hreset, issueNext_at_head hmops hphase hfree]
    exact ⟨_, p, newDeadline s.msp, rfl, by rw [tag_issueMop, Function.update_self]⟩
  · obtain ⟨p, deadline, htag⟩ := hheld m hm t ht
    refine ⟨.inr ⟨t, p, deadline, htag⟩, fun hfree => ?_⟩
    cases (hfree t).symm.trans htag

/-! ### GET_STATUS -/

theorem countTags_eq (f : Tag → Bool) (m : MemorySide) : countTags f m = m.tags.toList.countP f := by
  have htags : m.tags.toList = (List.finRange 8).map fun t => m.tags[t.val] := by
    refine List.ext_getElem (by simp) fun k _ _ => ?_
    simp
  rw [htags, List.countP_map]
  rfl

/-- Byte 9 of GET_STATUS by its bits (Table 10-5). -/
theorem stateFlags_eq (s : State) :
    stateFlags s
      = (0#6 ++ BitVec.ofBool s.wt.clearAllPending ++ BitVec.ofBool s.oq.lastFence.isSome : BitVec (6 + 1 + 1)) := by
  unfold stateFlags
  generalize s.wt.clearAllPending = pending, s.oq.lastFence.isSome = valid
  revert pending valid
  decide

/-- Byte 10 of GET_STATUS by its bits (Table 10-5). -/
theorem noticesByte_eq (n : Notices) :
    noticesByte n
      = (0#3 ++ BitVec.ofBool n.clearDone ++ BitVec.ofBool n.windowHalted ++ BitVec.ofBool n.windowClosed
          ++ BitVec.ofBool n.fenceDone ++ 0#1 : BitVec (3 + 1 + 1 + 1 + 1 + 1)) := by
  obtain ⟨fence, closed, halted, clear⟩ := n
  revert fence closed halted clear
  decide

/-- Byte 15 of GET_STATUS by its bits (Table 10-5). -/
theorem enablesByte_eq (e : Enables) :
    enablesByte e
      = (0#3 ++ BitVec.ofBool e.clearDone ++ BitVec.ofBool e.windowHalted ++ BitVec.ofBool e.windowClosed
          ++ BitVec.ofBool e.fenceDone ++ BitVec.ofBool e.fault : BitVec (3 + 1 + 1 + 1 + 1 + 1)) := by
  obtain ⟨fault, fence, closed, halted, clear⟩ := e
  revert fault fence closed halted clear
  decide

theorem exec_getStatus {s : State} (h : s.resetN = true) :
    exec .getStatus s = .next (answer 0x10#8 [] (done s (statusBytes s))) :=
  congrArg Host.Outcome.next (unlessReset_of_high h takeGetStatus)

/-- Settles O7: the counts of tags over the list of tags, and the three flag bytes bit by bit. -/
theorem getStatusReportsEveryBlock : Obligations.GetStatusReportsEveryBlock := by
  intro s hreset
  rw [exec_getStatus hreset, ← countTags_eq, ← countTags_eq, ← stateFlags_eq, ← noticesByte_eq, ← enablesByte_eq]
  rfl

end Sys2Proof.Proofs
end

section
/-! PROOF. LINK_RECOVER and CONFIGURE, which touch the tags, and the timeout setting and the enables, alone; and the
responses that no MOP waits for. -/

namespace Sys2Proof.Proofs

open Sys2Proof.Machine Sys2Proof.Safety Sys2Proof.Claims

/-! ### LINK_RECOVER and CONFIGURE -/

theorem exec_linkRecover {s : State} (h : s.resetN = true) :
    exec .linkRecover s
      = .next (answer 0x60#8 [] (done (recoverTags s) [BitVec.ofNat 8 (countTags Tag.isQuarantined s.msp)])) :=
  congrArg Host.Outcome.next (unlessReset_of_high h takeLinkRecover)

theorem exec_configure {s : State} (h : s.resetN = true) (timeout enables : Byte) :
    exec (.configure timeout enables) s
      = .next (answer 0x11#8 [timeout, enables] (done (setConfiguration timeout enables s) [])) :=
  congrArg Host.Outcome.next (unlessReset_of_high h (takeConfigure timeout enables))

/-- Settles O19: the tags by the three states of a tag, their number over the list of tags. -/
theorem linkRecoverFreesQuarantinedTags : Obligations.LinkRecoverFreesQuarantinedTags := by
  intro s hreset
  refine ⟨recoverTags s, ?_, fun k => ?_, rfl⟩
  · rw [exec_linkRecover hreset, countTags_eq, answer_done]
  · rw [recoverTags_tag]
    cases s.tag k with
    | free | outstanding | quarantined => rfl

/-- Settles O8: the new state is `setConfiguration`, answered OK without a result. -/
theorem configureSetsTimeoutAndEnables : Obligations.ConfigureSetsTimeoutAndEnables := by
  intro timeout enables s hreset
  rw [exec_configure hreset, answer_done]
  rfl

/-! ### Responses to tags that are not OUTSTANDING -/

theorem exec_memoryResponse_in_reset {s : State} (h : s.resetN = false) (t : Fin 8) (st : RespStatus) (data : Block) :
    exec (.memoryResponse t st data) s = .next s :=
  congrArg Host.Outcome.next (unlessReset_of_low h (acceptResponse t st data))

/-- A fault that names no window is recorded and halts none (R136, R138). -/
theorem reportFault_of_no_window {r : FaultRecord} (h : r.window = none) (s : State) :
    reportFault r s = { s with fu := loggedFault r s.fu } :=
  (faultHaltsStopOnFaultWindow r s).2 fun w hw => by rw [h] at hw; cases hw

/-- A response to a QUARANTINED tag frees it and is reported as late (R119). -/
theorem acceptResponse_quarantined {s : State} {t : Fin 8} {p : Phase} {block : Word}
    (h : s.tag t = .quarantined p block) (st : RespStatus) (data : Block) :
    acceptResponse t st data s = reportFault (lateFault t block st) (s.withTag t .free) := by
  simp only [acceptResponse, h]

/-- A response to a FREE tag is reported and leaves the tag (R120). -/
theorem acceptResponse_free {s : State} {t : Fin 8} (h : s.tag t = .free) (st : RespStatus) (data : Block) :
    acceptResponse t st data s = reportFault (unknownTagFault t) s := by
  simp only [acceptResponse, h]

/-- Settles O38: in reset nothing happens; outside it both records name no window. -/
theorem strayResponseIsOnlyRecorded : Obligations.StrayResponseIsOnlyRecorded := by
  intro s t st data
  refine ⟨fun hreset => ?_, fun p block hreset htag => ?_, fun hreset htag => ?_⟩
  · exact exec_memoryResponse_in_reset hreset t st data
  · rw [exec_memoryResponse hreset, acceptResponse_quarantined htag, reportFault_of_no_window rfl]
    rfl
  · rw [exec_memoryResponse hreset, acceptResponse_free htag, reportFault_of_no_window rfl]
    rfl

end Sys2Proof.Proofs
end

section
/-! PROOF. The response channel: what it offers and what an answer leaves, by whether the head entry is complete. -/

namespace Sys2Proof.Proofs

open Sys2Proof.Machine Sys2Proof.Safety Sys2Proof.Claims

theorem exec_entryAnswered {s : State} (h : s.resetN = true) : exec .entryAnswered s = .next (answerHead s) :=
  congrArg Host.Outcome.next (unlessReset_of_high h answerHead)

/-- An entry is complete when no READ MOP of its access is outstanding (R83). -/
theorem complete_iff_outstanding_eq_zero {e : Entry} : e.complete = true ↔ e.outstanding = 0 := by
  simp [Entry.complete]

/-- H_RVALID is high exactly when the head entry is complete, and H_RDATA and H_RERR are its word and flag (R130). -/
theorem hOffer_eq_some_iff {s : State} {r : HostResponse} :
    hOffer s = some r
      ↔ ∃ e rest, s.hsp.entries = e :: rest ∧ e.outstanding = 0 ∧ r = { data := e.word, error := e.error } := by
  unfold hOffer
  cases s.hsp.entries with
  | nil => simp
  | cons e rest => simp [complete_iff_outstanding_eq_zero, @eq_comm _ r]

/-- A complete head leaves the queue and is the last response (R130). -/
theorem answerHead_of_complete {s : State} {e : Entry} {rest : List Entry}
    (hentries : s.hsp.entries = e :: rest) (hcomplete : e.outstanding = 0) :
    answerHead s
      = { s with
          hsp :=
            { s.hsp with
              entries := rest
              lastResponse := some { data := e.word, error := e.error } } } := by
  simp only [answerHead, hentries, complete_iff_outstanding_eq_zero.mpr hcomplete, if_true]

/-- Nothing is answered while nothing is offered (R130). -/
theorem answerHead_of_no_offer {s : State} (h : hOffer s = none) : answerHead s = s := by
  unfold answerHead
  split
  · rfl
  · rename_i e rest hentries
    refine if_neg fun hcomplete => ?_
    have hoffer : hOffer s = some { data := e.word, error := e.error } :=
      hOffer_eq_some_iff.mpr ⟨e, rest, hentries, complete_iff_outstanding_eq_zero.mp hcomplete, rfl⟩
    cases h.symm.trans hoffer

/-- Settles O32: a complete head is what is offered and what is answered; without one there is no offer, and so no
answer. -/
theorem completeHeadIsAnswered : Obligations.CompleteHeadIsAnswered := by
  intro s hreset
  rw [exec_entryAnswered hreset]
  refine ⟨fun e rest hentries hcomplete => ⟨?_, ?_⟩, fun hincomplete => ?_⟩
  · exact hOffer_eq_some_iff.mpr ⟨e, rest, hentries, hcomplete, rfl⟩
  · rw [answerHead_of_complete hentries hcomplete]
  · have hoffer : hOffer s = none := by
      refine Option.eq_none_iff_forall_ne_some.mpr fun r hr => ?_
      obtain ⟨e, rest, hentries, hcomplete, -⟩ := hOffer_eq_some_iff.mp hr
      exact hincomplete e rest hentries hcomplete
    exact ⟨hoffer, by rw [answerHead_of_no_offer hoffer]⟩

end Sys2Proof.Proofs
end

section
/-! PROOF. The fault unit at the management port and at ATTN_N: what POP_FAULT and ACK_NOTICE take out of it, and when it
asks for attention. -/

namespace Sys2Proof.Proofs

open Sys2Proof.Machine Sys2Proof.Safety Sys2Proof.Claims

/-! ### POP_FAULT -/

theorem exec_popFault {s : State} (h : s.resetN = true) :
    exec .popFault s = .next (answer 0x50#8 [] (popFaultReply s)) :=
  congrArg Host.Outcome.next (unlessReset_of_high h takePopFault)

/-- An empty log is reported as a record of kind NONE, fifteen zero bytes (R137, R160). -/
theorem popFaultReply_of_empty {s : State} (h : s.fu.log = []) :
    popFaultReply s = done s (List.replicate 15 0#8 ++ [BitVec.ofNat 8 s.fu.lost]) := by
  simp only [popFaultReply, h]

/-- The oldest record leaves the log and is the result (R137). -/
theorem popFaultReply_of_record {s : State} {r : FaultRecord} {rest : List FaultRecord} (h : s.fu.log = r :: rest) :
    popFaultReply s
      = done (s.withFu { s.fu with log := rest }) (recordBytes r ++ [BitVec.ofNat 8 s.fu.lost]) := by
  simp only [popFaultReply, dropOldest, h, List.tail_cons]

/-- The present flags of a record by their bits (Table 10-11). -/
theorem presentFlags_eq (r : FaultRecord) :
    presentFlags r
      = (0#1 ++ BitVec.ofBool r.halted ++ BitVec.ofBool r.status.isSome ++ BitVec.ofBool r.tag.isSome
          ++ BitVec.ofBool r.block.isSome ++ BitVec.ofBool r.hostAddr.isSome ++ BitVec.ofBool r.window.isSome
          ++ BitVec.ofBool r.phase.isSome : BitVec (1 + 1 + 1 + 1 + 1 + 1 + 1 + 1)) := by
  unfold presentFlags
  generalize r.halted = halted, r.status.isSome = status, r.tag.isSome = tag, r.block.isSome = block,
    r.hostAddr.isSome = host, r.window.isSome = window, r.phase.isSome = phase
  revert halted status tag block host window phase
  decide

/-- Settles O18: the log by whether it holds a record, and the result bytes field by field. -/
theorem popFaultReturnsOldestRecord : Obligations.PopFaultReturnsOldestRecord := by
  intro s hreset
  rw [exec_popFault hreset]
  refine ⟨fun hempty => ?_, fun r rest hlog => ?_⟩
  · rw [popFaultReply_of_empty hempty, answer_done]
    rfl
  · rw [popFaultReply_of_record hlog, answer_done]
    refine congrArg (fun bytes => Host.Outcome.next (answered _ 0x50#8 [] bytes)) ?_
    simp only [recordBytes, bytes32, presentFlags_eq, List.cons_append, List.nil_append, List.cons.injEq, true_and,
      and_true]
    refine ⟨?kind, ?phase, ?index, ?generation, ?tag, ?status⟩
    case kind => cases r.kind <;> rfl
    case phase => rcases r.phase with _ | _ | _ | _ <;> rfl
    case index => cases r.window <;> rfl
    case generation => cases r.window <;> rfl
    case tag => cases r.tag <;> rfl
    case status => rcases r.status with _ | _ | _ <;> rfl

/-! ### ACK_NOTICE -/

theorem exec_ackNotice {s : State} (h : s.resetN = true) (mask : Byte) :
    exec (.ackNotice mask) s = .next (answer 0x12#8 [mask] (done (s.withFu (acknowledge mask s.fu)) [])) :=
  congrArg Host.Outcome.next (unlessReset_of_high h (takeAckNotice mask))

/-- A flag is cleared by its bit of the mask and kept otherwise (R142). -/
theorem and_not_eq_ite (flag bit : Bool) : (flag && !bit) = if bit then false else flag := by
  cases bit <;> simp

/-- Settles O9: the four flags by their bits of the mask; the sets, the counter and the rest as `acknowledge` has
them. -/
theorem ackNoticeClearsMaskedNotices : Obligations.AckNoticeClearsMaskedNotices := by
  intro mask s hreset
  refine ⟨_, exec_ackNotice hreset mask, rfl, ?_, ?_, ?_, ?_, rfl, rfl, rfl, rfl, rfl, rfl⟩
  · exact and_not_eq_ite s.fu.notices.fenceDone (mask.getLsbD 1)
  · exact and_not_eq_ite s.fu.notices.windowClosed (mask.getLsbD 2)
  · exact and_not_eq_ite s.fu.notices.windowHalted (mask.getLsbD 3)
  · exact and_not_eq_ite s.fu.notices.clearDone (mask.getLsbD 4)

/-! ### ATTN_N -/

/-- Attention is requested by a record in the log with FAULT enabled, or by an enabled notice flag (R145). -/
theorem attention_iff (fu : FaultUnit) :
    attention fu = true
      ↔ (fu.log ≠ [] ∧ fu.enables.fault = true)
        ∨ (fu.notices.fenceDone = true ∧ fu.enables.fenceDone = true)
        ∨ (fu.notices.windowClosed = true ∧ fu.enables.windowClosed = true)
        ∨ (fu.notices.windowHalted = true ∧ fu.enables.windowHalted = true)
        ∨ (fu.notices.clearDone = true ∧ fu.enables.clearDone = true) := by
  simp only [attention, Bool.or_eq_true, Bool.and_eq_true, Bool.not_eq_true', List.isEmpty_eq_false_iff, ne_eq, or_assoc]

/-- Outside reset ATTN_N is low exactly while attention is requested (R145, R146). -/
theorem attnN_eq_false_iff {s : State} (h : s.resetN = true) : attnN s = false ↔ attention s.fu = true := by
  simp only [attnN, h, Bool.true_and, Bool.not_eq_false']

/-- Settles O47, by the conditions on the fault unit. -/
theorem attentionFollowsItsConditions : Obligations.AttentionFollowsItsConditions := fun s hreset =>
  (attnN_eq_false_iff hreset).trans (attention_iff s.fu)

end Sys2Proof.Proofs
end

section
/-! PROOF. The layouts of the management port read both ways: a frame gives back the command that it was made from, and
the result bytes of READ_SURFACE and READ_WINDOW give back the fields that they were made from. -/

namespace Sys2Proof.Proofs

open Sys2Proof.Machine Sys2Proof.Safety Sys2Proof.Claims

/-! ### Parameter bytes -/

/-- SET_SURFACE's fields are read back from their places (R157). -/
theorem surfaceParamsOf_surfaceParamBytes (p : SurfaceParams) : surfaceParamsOf (surfaceParamBytes p) = p := by
  cases p
  simp only [surfaceParamsOf, surfaceParamBytes, List.append_assoc, List.cons_append, List.nil_append,
    SurfaceParams.mk.injEq]
  exact ⟨rfl, rfl, field32_of_drop rfl, field16_of_drop rfl, field16_of_drop rfl, field16_of_drop (rest := []) rfl⟩

/-- SET_WINDOW's fields are read back from their places (R158). -/
theorem windowParamsOf_windowParamBytes (p : WindowParams) : windowParamsOf (windowParamBytes p) = p := by
  cases p
  simp only [windowParamsOf, windowParamBytes, List.append_assoc, List.cons_append, List.nil_append,
    WindowParams.mk.injEq]
  exact ⟨rfl, rfl, rfl, rfl, field32_of_drop rfl, field16_of_drop rfl, field16_of_drop rfl, field16_of_drop rfl,
    field16_of_drop rfl, field16_of_drop rfl, field16_of_drop rfl, field16_of_drop rfl, field16_of_drop rfl,
    field32_of_drop rfl, field32_of_drop rfl, field32_of_drop rfl, field32_of_drop (rest := []) rfl⟩

/-! ### Command bytes -/

/-- The command bytes of Table 10-3. -/
def tableCodes : List Byte :=
  [0x10#8, 0x11#8, 0x12#8, 0x20#8, 0x21#8, 0x22#8, 0x30#8, 0x31#8, 0x32#8, 0x33#8, 0x34#8, 0x40#8, 0x50#8, 0x60#8,
    0x70#8]

theorem knownCode_eq_false_iff : ∀ {code : Byte}, knownCode code = false ↔ code ∉ tableCodes := by decide

/-- A command byte that Table 10-3 does not hold is read as unknown (R152). -/
theorem decodeFrame_of_unknown {code : Byte} (h : knownCode code = false) (params : List Byte) :
    decodeFrame code params = .unknownCommand code := by
  have hcode := knownCode_eq_false_iff.1 h
  simp only [tableCodes, List.mem_cons, List.not_mem_nil, or_false, not_or] at hcode
  simp [decodeFrame, hcode]

/-- A command byte that Table 10-3 does not hold has no parameters and no result (R152). -/
theorem counts_of_unknown {code : Byte} (h : knownCode code = false) : paramCount code = 0 ∧ resultCount code = 0 := by
  simp only [knownCode, Option.isSome_eq_false_iff, Option.isNone_iff_eq_none] at h
  simp [paramCount, resultCount, h]

theorem wellFormed_unknownCommand {code : Byte} :
    (Instr.unknownCommand code).wellFormed = true ↔ knownCode code = false := by
  simp [Instr.wellFormed]

/-- Settles O3, by the command: the two with layouts by their fields, an unknown one by its command byte. -/
theorem frameDecodeInvertsEncode : Obligations.FrameDecodeInvertsEncode := by
  intro i code params hwell hframe
  cases i with
  | setSurface p => cases hframe; exact congrArg Instr.setSurface (surfaceParamsOf_surfaceParamBytes p)
  | setWindow p => cases hframe; exact congrArg Instr.setWindow (windowParamsOf_windowParamBytes p)
  | unknownCommand c => cases hframe; exact decodeFrame_of_unknown (wellFormed_unknownCommand.1 hwell) []
  | getStatus | configure | ackNotice | dropSurface | readSurface | openWindow | closeWindow | resumeWindow | readWindow
  | fence | popFault | linkRecover | clearAll => cases hframe; rfl
  | requestHandshake | entryAnswered | issue | memoryResponse | expiry | smCsNFall | smCsNRise | resetNLow
  | resetNRelease | smSckRisingEdge => cases hframe

/-! ### READ_SURFACE sent back -/

/-- The parameters of SET_SURFACE with the fields of a descriptor. -/
def paramsOfSurface (k : Fin 8) (d : Surface) : SurfaceParams where
  index := BitVec.ofNat 8 k.val
  format := d.format.code
  base := d.base
  pitch := d.pitch
  width := d.width
  height := d.height

/-- The bytes of READ_SURFACE after its first, sent back, are the parameters with the descriptor's fields (R157). -/
theorem surfaceBytes_sent_back (k : Fin 8) (d : Surface) :
    BitVec.ofNat 8 k.val :: ((surfaceBytes (some d)).drop 1).take 11 = surfaceParamBytes (paramsOfSurface k d) := rfl

/-- A format code is the bytes per pixel (R1). -/
theorem bpp_eq_toNat_code (f : PixelFormat) : f.bpp = f.code.toNat := by cases f <;> rfl

/-- An index byte holds the index of a table of at most 256 entries. -/
theorem val_eq_toNat_ofNat {n : Nat} (hn : n ≤ 256) (k : Fin n) : k.val = (BitVec.ofNat 8 k.val).toNat := by
  have := k.isLt
  rw [BitVec.toNat_ofNat]
  omega

/-- A sound descriptor passes the checks of SET_SURFACE (R4, R10). -/
theorem checkSurface_paramsOfSurface (k : Fin 8) {d : Surface} (h : SurfaceSound d) :
    checkSurface (paramsOfSurface k d) = some (k, { d with refCount := 0 }) := by
  have hgeometry : geometryValid d.format (paramsOfSurface k d) = true := by
    simp only [geometryValid, Bool.and_eq_true, decide_eq_true_eq, and_assoc]
    exact h
  have hindex : k.val = (paramsOfSurface k d).index.toNat := val_eq_toNat_ofNat (by norm_num) k
  have hformat : d.format.bpp = (paramsOfSurface k d).format.toNat := bpp_eq_toNat_code d.format
  exact checkSurface_eq_some ((surfaceFieldsValid_iff hindex hformat).2 hgeometry) hindex hformat

/-! ### READ_WINDOW sent back -/

/-- The parameters of SET_WINDOW with these staged fields; an absent clip or background is sent as 0 (R16). -/
def paramsOfStaged (i : Fin 16) (w : Staged) : WindowParams where
  index := BitVec.ofNat 8 i.val
  kind := w.kind.code
  options := optionsByte w
  surface := BitVec.ofNat 8 w.surface.val
  hostBase := w.hostBase
  originX := w.originX
  originY := w.originY
  width := w.width
  height := w.height
  clipLeft := (w.clip.map Clip.left).getD 0#16
  clipTop := (w.clip.map Clip.top).getD 0#16
  clipRight := (w.clip.map Clip.right).getD 0#16
  clipBottom := (w.clip.map Clip.bottom).getD 0#16
  foreground := w.foreground
  background := w.background.getD 0#32
  key := w.key
  keyMask := w.keyMask

/-- The bytes of READ_WINDOW for the staged fields, sent back, are the parameters with these fields (R159). -/
theorem windowBytes_sent_back (i : Fin 16) (w : Window) :
    BitVec.ofNat 8 i.val :: ((windowBytes w).drop 2).take 39 = windowParamBytes (paramsOfStaged i w.staged) := by
  simp only [windowBytes, stagedBytes, clipBytes_eq, windowParamBytes, paramsOfStaged, List.append_assoc,
    List.cons_append, List.nil_append]
  rfl

/-- The option bits say which fields are present (R158). -/
theorem optionsByte_bits (w : Staged) :
    (optionsByte w).getLsbD 0 = w.clip.isSome ∧ (optionsByte w).getLsbD 1 = w.background.isSome
      ∧ (optionsByte w).getLsbD 2 = w.stopOnFault ∧ (optionsByte w).toNat < 8 := by
  have hbits : ∀ clip background stop : Bool,
      let b := flagBit clip 0 ||| flagBit background 1 ||| flagBit stop 2
      b.getLsbD 0 = clip ∧ b.getLsbD 1 = background ∧ b.getLsbD 2 = stop ∧ b.toNat < 8 := by decide
  exact hbits _ _ _

/-- Sound staged fields are in the ranges of SET_WINDOW (R15, R22). -/
theorem windowFieldsValid_paramsOfStaged (i : Fin 16) {w : Staged} (h : StagedSound w) :
    windowFieldsValid (paramsOfStaged i w) = true := by
  obtain ⟨hbase, hx, hy, hw1, hw, hh1, hh, hclip⟩ := h
  obtain ⟨hclipBit, -, -, hoptions⟩ := optionsByte_bits w
  have hclipValid : (!(optionsByte w).getLsbD 0 || clipValid (paramsOfStaged i w)) = true := by
    rw [hclipBit]
    cases hc : w.clip with
    | none => rfl
    | some c =>
      have hvalid : clipValid (paramsOfStaged i w) = true := by
        rw [clipValid_iff]
        simpa [paramsOfStaged, hc] using hclip c hc
      simp [hvalid]
  simp only [windowFieldsValid, Bool.and_eq_true, decide_eq_true_eq, options_clear_iff, and_assoc]
  exact ⟨hoptions, hbase, hx, hy, hw1, hw, hh1, hh, hclipValid⟩

/-- The staged fields that these parameters write are the fields that they were made from (R21). -/
theorem stagedOf_paramsOfStaged (i : Fin 16) (w : Staged) : stagedOf w.kind w.surface (paramsOfStaged i w) = w := by
  obtain ⟨hclip, hbackground, hstop, -⟩ := optionsByte_bits w
  have hclipOf : clipOf (paramsOfStaged i w) = w.clip := by
    simp only [clipOf, paramsOfStaged, hclip]
    cases w.clip <;> rfl
  have hbackgroundOf : (if w.background.isSome then some (w.background.getD 0#32) else none) = w.background := by
    cases w.background <;> rfl
  simp only [stagedOf, hclipOf]
  simp only [paramsOfStaged, hbackground, hbackgroundOf, hstop]

/-- Sound staged fields pass the checks of SET_WINDOW (R15, R22). -/
theorem checkWindow_paramsOfStaged (i : Fin 16) {w : Staged} (h : StagedSound w) :
    checkWindow (paramsOfStaged i w) = some (i, w) := by
  have hindex : i.val = (paramsOfStaged i w).index.toNat := val_eq_toNat_ofNat (by norm_num) i
  have hsurface : w.surface.val = (paramsOfStaged i w).surface.toNat := val_eq_toNat_ofNat (by norm_num) w.surface
  have hvalid : WindowFieldsValid (paramsOfStaged i w) :=
    (windowFieldsValid_iff hindex rfl hsurface).2 (windowFieldsValid_paramsOfStaged i h)
  rw [checkWindow_eq_some hvalid hindex rfl hsurface, stagedOf_paramsOfStaged]

/-- Settles O6: what is sent back is the frame of the descriptor's own parameters, which pass the checks. -/
theorem readBackRestoresDescriptors : Obligations.ReadBackRestoresDescriptors := by
  refine ⟨fun k d hd => ?_, fun i w hw => ?_⟩
  · rw [surfaceBytes_sent_back, surfaceParamsOf_surfaceParamBytes, checkSurface_paramsOfSurface k hd]
  · rw [windowBytes_sent_back, windowParamsOf_windowParamBytes, checkWindow_paramsOfStaged i hw]

end Sys2Proof.Proofs
end

section
/-! PROOF. The serial link edge by edge: what one rising edge of SM_SCK does in each phase, what a run of them does to
the frame, and the bytes that the port sends while they come. -/

namespace Sys2Proof.Proofs

open Sys2Proof.Machine Sys2Proof.Safety Sys2Proof.Claims

/-! ### One edge -/

theorem exec_smSckRisingEdge {s : State} (hreset : s.resetN = true) (hcs : s.csN = false) (di : Bool) :
    exec (.smSckRisingEdge di) s = .next (clockEdge di s) := by
  have h : exec (.smSckRisingEdge di) s = .next (if s.csN then s else clockEdge di s) :=
    congrArg Host.Outcome.next (unlessReset_of_high hreset _)
  simpa [hcs] using h

/-- Edges while SM_CS_N is high or RESET_N is low are ignored (R147, R162). -/
theorem exec_smSckRisingEdge_ignored {s : State} (h : s.csN = true ∨ s.resetN = false) (di : Bool) :
    exec (.smSckRisingEdge di) s = .next s := by
  show Host.Outcome.next (unlessReset s fun s => if s.csN then s else clockEdge di s) = .next s
  obtain hcs | hreset := h
  · simp [unlessReset, hcs]
  · rw [unlessReset_of_low hreset]

theorem clockEdge_idle {s : State} (h : s.mgp.phase = .idle) (di : Bool) : clockEdge di s = s := by
  simp only [clockEdge, h]

/-- A received bit is shifted in, most significant bit first (R147). -/
theorem shiftIn_eq_nextShift (f : Frame) (di : Bool) : shiftIn f di = nextShift f.shift di := by
  have hbits : ∀ (shift : Byte) (di : Bool), shift <<< 1 ||| (if di then 1#8 else 0#8) = nextShift shift di := by decide
  exact hbits _ _

/-- The phases in which the port receives a byte (R148). -/
def Receiving (f : Frame) : Prop := f.phase = .command ∨ f.phase = .parameters

/-- The phases in which the port sends and takes no bit in (R148, R151). -/
def Sending (f : Frame) : Prop := f.phase = .response ∨ f.phase = .trailing

theorem clockEdge_receiving {s : State} (h : Receiving s.mgp) (hbits : s.mgp.bitCount < 7) (di : Bool) :
    clockEdge di s
      = s.withFrame { s.mgp with bitCount := s.mgp.bitCount + 1, shift := nextShift s.mgp.shift di } := by
  obtain h | h := h <;> simp only [clockEdge, h, if_pos hbits, shiftIn_eq_nextShift]

theorem clockEdge_sending {s : State} (h : Sending s.mgp) (hbits : s.mgp.bitCount < 7) (di : Bool) :
    clockEdge di s = s.withFrame { s.mgp with bitCount := s.mgp.bitCount + 1 } := by
  obtain h | h := h <;> simp only [clockEdge, h, if_pos hbits]

theorem clockEdge_command_last {s : State} (h : s.mgp.phase = .command) (hbits : s.mgp.bitCount = 7) (di : Bool) :
    clockEdge di s = completeCommandByte (nextShift s.mgp.shift di) s := by
  simp [clockEdge, h, hbits, shiftIn_eq_nextShift]

theorem clockEdge_parameters_last {s : State} (h : s.mgp.phase = .parameters) (hbits : s.mgp.bitCount = 7) (di : Bool) :
    clockEdge di s = completeParamByte (nextShift s.mgp.shift di) s := by
  simp [clockEdge, h, hbits, shiftIn_eq_nextShift]

theorem clockEdge_response_last {s : State} (h : s.mgp.phase = .response) (hbits : s.mgp.bitCount = 7) (di : Bool) :
    clockEdge di s = s.withFrame (completeResponseByte s.mgp) := by
  simp [clockEdge, h, hbits]

theorem clockEdge_trailing_last {s : State} (h : s.mgp.phase = .trailing) (hbits : s.mgp.bitCount = 7) (di : Bool) :
    clockEdge di s = s.withFrame { s.mgp with bitCount := 0 } := by
  simp [clockEdge, h, hbits]

/-! ### A run of edges -/

/-- Rising edges of SM_SCK, one for each level of SM_DI. -/
def clockEdges (dis : List Bool) (s : State) : State := dis.foldl (fun s di => clockEdge di s) s

theorem clockEdges_cons (di : Bool) (dis : List Bool) (s : State) :
    clockEdges (di :: dis) s = clockEdges dis (clockEdge di s) := rfl

theorem clockEdges_append (dis dis' : List Bool) (s : State) :
    clockEdges (dis ++ dis') s = clockEdges dis' (clockEdges dis s) := List.foldl_append

/-- An edge moves neither pin (R147). -/
theorem clockEdge_pins (di : Bool) {s : State} (hcs : s.csN = false) :
    (clockEdge di s).resetN = s.resetN ∧ (clockEdge di s).csN = false := by
  obtain ⟨f, h⟩ | ⟨c, h⟩ := clockEdge_cases di s
  · rw [h]
    exact ⟨rfl, hcs⟩
  · rw [h]
    refine ⟨takeCommand_resetN c s, ?_⟩
    obtain h | ⟨code, params, r, h, -⟩ := takeCommand_cases c s
    · rw [h, hcs]
    · rw [h, answer_csN]

/-- Inside a frame a run of SM_SCK_RISING_EDGE is a run of edges. -/
theorem execAll_smSckRisingEdge (dis : List Bool) {s : State} (hreset : s.resetN = true) (hcs : s.csN = false) :
    execAll (dis.map fun di => .smSckRisingEdge di) s = .next (clockEdges dis s) := by
  induction dis generalizing s with
  | nil => rfl
  | cons di dis ih =>
    obtain ⟨hreset', hcs'⟩ := clockEdge_pins di hcs
    simp only [List.map_cons, execAll, exec_smSckRisingEdge hreset hcs, ih (hreset'.trans hreset) hcs', clockEdges_cons]

/-- Eight levels are seven and a last one. -/
theorem exists_eq_append_of_length_eight {dis : List Bool} (h : dis.length = 8) :
    ∃ first last, dis = first ++ [last] ∧ first.length = 7 := by
  have hne : dis ≠ [] := List.ne_nil_of_length_eq_add_one h
  exact ⟨dis.dropLast, dis.getLast hne, (List.dropLast_append_getLast hne).symm, by simp [h]⟩

/-! ### Sending -/

/-- While a byte is being sent edges count its bits and nothing else, whatever SM_DI carries (R148, R151). -/
theorem clockEdges_sending (dis : List Bool) {s : State} (h : Sending s.mgp) (hbits : s.mgp.bitCount + dis.length ≤ 7) :
    clockEdges dis s = s.withFrame { s.mgp with bitCount := s.mgp.bitCount + dis.length } := by
  induction dis generalizing s with
  | nil => rfl
  | cons di dis ih =>
    rw [List.length_cons] at hbits
    rw [clockEdges_cons, clockEdge_sending h (by omega),
      ih (s := s.withFrame { s.mgp with bitCount := s.mgp.bitCount + 1 }) h (by simp only [withFrame_mgp]; omega)]
    simp only [State.withFrame, List.length_cons, Nat.add_assoc, Nat.add_comm 1]

/-- Inside a frame SM_DO carries the next bit of the response byte (R147, R151). -/
theorem smDo_response {s : State} (hreset : s.resetN = true) (hcs : s.csN = false) (h : s.mgp.phase = .response) :
    smDo s = some ((s.mgp.response.headD 0#8).getLsbD (7 - s.mgp.bitCount)) := by
  simp [smDo, hreset, hcs, h]

/-- In COMMAND, PARAMETERS and TRAILING SM_DO carries 00h (Table 10-2). -/
theorem smDo_zero {s : State} (hreset : s.resetN = true) (hcs : s.csN = false)
    (h : s.mgp.phase = .command ∨ s.mgp.phase = .parameters ∨ s.mgp.phase = .trailing) : smDo s = some false := by
  obtain h | h | h := h <;> simp [smDo, hreset, hcs, h]

/-- SM_DO is at high impedance outside a frame (R147, R162). -/
theorem smDo_none {s : State} (h : s.csN = true ∨ s.resetN = false ∨ s.mgp.phase = .idle) : smDo s = none := by
  obtain h | h | h := h <;> simp [smDo, h]

/-- Eight edges send a response byte, and the next one follows, or TRAILING after the last (R148). -/
theorem clockEdges_response_byte {dis : List Bool} {s : State} {b : Byte} {rest : List Byte} (hlen : dis.length = 8)
    (hphase : s.mgp.phase = .response) (hbits : s.mgp.bitCount = 0) (hresponse : s.mgp.response = b :: rest) :
    clockEdges dis s
      = s.withFrame
          { s.mgp with
            response := rest
            phase := if rest = [] then .trailing else .response } := by
  obtain ⟨first, last, rfl, hfirst⟩ := exists_eq_append_of_length_eight hlen
  rw [clockEdges_append, clockEdges_sending first (.inl hphase) (by omega), clockEdges_cons,
    clockEdge_response_last (by exact hphase) (by simp only [withFrame_mgp]; omega)]
  cases rest with
  | nil => simp [clockEdges, completeResponseByte, State.withFrame, hresponse, hbits]
  | cons c rest => simp [clockEdges, completeResponseByte, State.withFrame, hresponse, hbits, hphase]

/-- Eight edges in TRAILING send a byte and lead back (R148). -/
theorem clockEdges_trailing_byte {dis : List Bool} {s : State} (hlen : dis.length = 8)
    (hphase : s.mgp.phase = .trailing) (hbits : s.mgp.bitCount = 0) : clockEdges dis s = s := by
  obtain ⟨first, last, rfl, hfirst⟩ := exists_eq_append_of_length_eight hlen
  rw [clockEdges_append, clockEdges_sending first (.inr hphase) (by omega), clockEdges_cons,
    clockEdge_trailing_last (by exact hphase) (by simp only [withFrame_mgp]; omega)]
  simp [clockEdges, State.withFrame, ← hbits]

/-- Settles O5, by the edges of one byte: before the eighth only the bit count moves. -/
theorem responseBytesShiftOut : Obligations.ResponseBytesShiftOut := by
  intro s dis hreset hcs hbits hlen
  have hedges := fun dis => execAll_smSckRisingEdge dis hreset hcs
  have hcount : Sending s.mgp → ∀ k ≤ 7, clockEdges (dis.take k) s = s.withFrame { s.mgp with bitCount := k } := by
    intro hsending k hk
    have htake : (dis.take k).length = k := by simp only [List.length_take]; omega
    rw [clockEdges_sending _ hsending (by omega), hbits, htake, Nat.zero_add]
  refine ⟨fun b rest hphase hresponse => ⟨fun k hk => ⟨_, hedges _, ?_⟩, ?_⟩,
    fun hphase => ⟨fun k hk => ⟨_, hedges _, ?_⟩, ?_⟩⟩
  · rw [hcount (.inl hphase) k hk, smDo_response (by exact hreset) (by exact hcs) (by exact hphase)]
    simp [hresponse]
  · rw [hedges, clockEdges_response_byte hlen hphase hbits hresponse]
    rfl
  · rw [hcount (.inr hphase) k hk, smDo_zero (by exact hreset) (by exact hcs) (.inr (.inr (by exact hphase)))]
  · rw [hedges, clockEdges_trailing_byte hlen hphase hbits]

end Sys2Proof.Proofs
end

section
/-! PROOF. The commands of the management port as rows and on the wire: what UNKNOWN_COMMAND leaves, what each edge of
the serial link does to the frame, and that none of them touches pixel data. -/

namespace Sys2Proof.Proofs

open Sys2Proof.Machine Sys2Proof.Safety Sys2Proof.Claims

/-! ### Rows of the management port -/

/-- A well-formed command of the management port: it has a frame (R152, R153). -/
def Management (c : Instr) : Prop := c.wellFormed = true ∧ (encodeFrame c).isSome = true

/-- Whatever its bytes, a frame is read as a well-formed command of the management port (R152, R153). -/
theorem management_decodeFrame (code : Byte) (params : List Byte) : Management (decodeFrame code params) := by
  by_cases hcode : code ∈ tableCodes
  · simp only [tableCodes, List.mem_cons, List.not_mem_nil, or_false] at hcode
    obtain rfl | rfl | rfl | rfl | rfl | rfl | rfl | rfl | rfl | rfl | rfl | rfl | rfl | rfl | rfl := hcode
    all_goals exact ⟨rfl, rfl⟩
  · have hunknown := knownCode_eq_false_iff.2 hcode
    rw [decodeFrame_of_unknown hunknown]
    exact ⟨wellFormed_unknownCommand.2 hunknown, rfl⟩

/-- A command byte of a command without parameters is taken (R148, R152). -/
theorem completeCommandByte_of_no_params {code : Byte} (h : paramCount code = 0) (s : State) :
    completeCommandByte code s = takeCommand (decodeFrame code []) s := if_pos h

/-- A command byte of a command with parameters leads to PARAMETERS (R148). -/
theorem completeCommandByte_of_params {code : Byte} (h : paramCount code ≠ 0) (s : State) :
    completeCommandByte code s = s.withFrame (expectParams code) := if_neg h

/-- An unknown command byte is answered UNKNOWN (R152). -/
theorem exec_unknownCommand {s : State} (h : s.resetN = true) {code : Byte} (hcode : knownCode code = false) :
    exec (.unknownCommand code) s = .next (answer code [] (refuse s .unknown)) := by
  have htaken : completeCommandByte code { s with csN := false } = answer code [] (refuse s .unknown) := by
    rw [completeCommandByte_of_no_params (counts_of_unknown hcode).1, decodeFrame_of_unknown hcode]
    rfl
  rw [← htaken]
  exact congrArg Host.Outcome.next (unlessReset_of_high h _)

/-- Outside reset the row of a management command takes it (R149). -/
theorem exec_management {c : Instr} {s : State} (hc : Management c) (hreset : s.resetN = true) :
    exec c s = .next (takeCommand c s) := by
  obtain ⟨hwell, hframe⟩ := hc
  cases c with
  | unknownCommand code => exact exec_unknownCommand hreset (wellFormed_unknownCommand.1 hwell)
  | getStatus | configure | ackNotice | setSurface | dropSurface | readSurface | setWindow | openWindow | closeWindow
  | resumeWindow | readWindow | fence | popFault | linkRecover | clearAll =>
    exact congrArg Host.Outcome.next (unlessReset_of_high hreset _)
  | requestHandshake | entryAnswered | issue | memoryResponse | expiry | smCsNFall | smCsNRise | resetNLow
  | resetNRelease | smSckRisingEdge => cases hframe

/-! ### UNKNOWN_COMMAND -/

/-- In TRAILING edges count bits, and every further byte is ignored (R148). -/
theorem clockEdges_trailing (dis : List Bool) {s : State} (h : s.mgp.phase = .trailing) :
    ∃ n, clockEdges dis s = s.withFrame { s.mgp with bitCount := n } := by
  induction dis generalizing s with
  | nil => exact ⟨s.mgp.bitCount, rfl⟩
  | cons di dis ih =>
    have hfirst : ∃ n, clockEdge di s = s.withFrame { s.mgp with bitCount := n } := by
      simp only [clockEdge, h]
      split
      · exact ⟨_, rfl⟩
      · exact ⟨_, rfl⟩
    obtain ⟨m, hm⟩ := hfirst
    obtain ⟨n, hn⟩ := ih (s := s.withFrame { s.mgp with bitCount := m }) h
    exact ⟨n, by rw [clockEdges_cons, hm, hn]; rfl⟩

/-- Once a last response byte has been sent, nothing is left of the frame but its command (R148). -/
theorem clockEdges_last_byte {dis : List Bool} {s : State} {b : Byte} (hlen : 8 ≤ dis.length)
    (hphase : s.mgp.phase = .response) (hbits : s.mgp.bitCount = 0) (hresponse : s.mgp.response = [b]) :
    ∃ n, clockEdges dis s = s.withFrame { s.mgp with phase := .trailing, bitCount := n, response := [] } := by
  obtain ⟨n, hn⟩ := clockEdges_trailing (dis.drop 8)
    (s := s.withFrame { s.mgp with response := [], phase := .trailing }) rfl
  refine ⟨n, ?_⟩
  rw [← List.take_append_drop 8 dis, clockEdges_append,
    clockEdges_response_byte (by rw [List.length_take]; omega) hphase hbits hresponse, if_pos rfl, hn]
  rfl

/-- An unknown command is answered with the status byte alone (R152, R154). -/
theorem response_of_unknown {code : Byte} (h : knownCode code = false) (s : State) :
    (answer code [] (refuse s .unknown)).mgp.response = [0x0F#8] := by
  simp [answeredFrame, responseBytes, refuse, Status.code, (counts_of_unknown h).2]

/-- Settles O21: the answer UNKNOWN, whose only byte leads to TRAILING. -/
theorem unknownCommandChangesNothing : Obligations.UnknownCommandChangesNothing := by
  intro code s hreset hlist
  have hcode : knownCode code = false := knownCode_eq_false_iff.2 hlist
  have hresponse := response_of_unknown hcode s
  refine ⟨answer code [] (refuse s .unknown), exec_unknownCommand hreset hcode, rfl, rfl, rfl, hresponse, rfl,
    fun dis hlen => ?_⟩
  obtain ⟨n, hn⟩ := clockEdges_last_byte (s := answer code [] (refuse s .unknown)) hlen rfl rfl hresponse
  have hedges := execAll_smSckRisingEdge dis (s := answer code [] (refuse s .unknown)) hreset rfl
  exact ⟨_, hedges.trans (congrArg Host.Outcome.next hn), rfl, rfl, rfl, rfl⟩

/-! ### Edges of the link -/

/-- A parameter byte that is not the last is stored (R148). -/
theorem completeParamByte_of_more {s : State} {code b : Byte} (hcode : s.mgp.code = some code)
    (h : (s.mgp.params ++ [b]).length ≠ paramCount code) :
    completeParamByte b s = s.withFrame { s.mgp with bitCount := 0, shift := 0#8, params := s.mgp.params ++ [b] } := by
  rw [List.length_append, List.length_singleton] at h
  simp only [completeParamByte, hcode, if_neg h]

/-- With the last parameter byte the command is taken (R148). -/
theorem completeParamByte_of_last {s : State} {code b : Byte} (hcode : s.mgp.code = some code)
    (h : (s.mgp.params ++ [b]).length = paramCount code) :
    completeParamByte b s = takeCommand (decodeFrame code (s.mgp.params ++ [b])) s := by
  rw [List.length_append, List.length_singleton] at h
  simp only [completeParamByte, hcode, if_pos h]

theorem csFall_of_high {s : State} (h : s.csN = true) :
    csFall s = { s with csN := false, mgp := if s.resetN then Frame.begun else s.mgp } := if_pos h

theorem csFall_of_low {s : State} (h : s.csN = false) : csFall s = s := by simp [csFall, h]

theorem csRise_of_high {s : State} (h : s.csN = true) : csRise s = s := if_pos h

theorem csRise_of_low {s : State} (h : s.csN = false) : csRise s = { s with csN := true, mgp := Frame.idle } := by
  simp [csRise, h]

/-- In IDLE a run of edges is ignored (R162). -/
theorem execAll_smSckRisingEdge_idle {s : State} (hreset : s.resetN = true) (hcs : s.csN = false)
    (h : s.mgp.phase = .idle) (dis : List Bool) : execAll (dis.map fun di => .smSckRisingEdge di) s = .next s := by
  rw [execAll_smSckRisingEdge dis hreset hcs]
  induction dis with
  | nil => rfl
  | cons di dis ih => rw [clockEdges_cons, clockEdge_idle h, ih]

/-- Settles O45: the two edges of SM_CS_N by its level, those of SM_SCK by the phase and the bit count. -/
theorem serialEdgesMoveTheFrame : Obligations.SerialEdgesMoveTheFrame := by
  intro s
  refine ⟨fun hcs => ?_, fun hcs => ?_, fun hcs => ?_, fun hcs => ?_, fun h => ?_, fun hcs hreset => ⟨fun hidle => ?_,
    fun hphase => ?_⟩, fun hcs => ?_, fun di => ⟨fun h => ?_, fun hcs hreset => ?_⟩⟩
  · exact congrArg Host.Outcome.next (csFall_of_high hcs)
  · exact congrArg Host.Outcome.next (csFall_of_low hcs)
  · exact congrArg Host.Outcome.next (csRise_of_low hcs)
  · exact congrArg Host.Outcome.next (csRise_of_high hcs)
  · exact smDo_none (h.imp_right .inl)
  · exact ⟨smDo_none (.inr (.inr hidle)), fun di => by rw [exec_smSckRisingEdge hreset hcs, clockEdge_idle hidle]⟩
  · exact smDo_zero hreset hcs (hphase.imp_right .inl)
  · exact ⟨releaseReset (holdInReset s), rfl, rfl, hcs, smDo_none (.inr (.inr rfl)),
      execAll_smSckRisingEdge_idle rfl hcs rfl⟩
  · exact exec_smSckRisingEdge_ignored h di
  rw [exec_smSckRisingEdge hreset hcs]
  refine ⟨fun hphase hbits => ?_, ?_, ?_⟩
  · rw [clockEdge_receiving hphase hbits]
    rfl
  · rintro hphase hbits code rfl
    rw [clockEdge_command_last hphase hbits]
    refine ⟨fun hnone => ?_, fun hsome => ?_⟩
    · rw [completeCommandByte_of_no_params hnone, exec_management (management_decodeFrame _ _) hreset]
    · rw [completeCommandByte_of_params hsome.ne']
      rfl
  · rintro hphase hbits code params hcode rfl
    rw [clockEdge_parameters_last hphase hbits]
    refine ⟨fun hlast => ?_, fun hmore => ?_⟩
    · rw [completeParamByte_of_last hcode hlast, exec_management (management_decodeFrame _ _) hreset]
    · rw [completeParamByte_of_more hcode hmore.ne]
      rfl

/-! ### Pixel data -/

/-- MOPs, response queue, presented access and last memory command are the same in both states. -/
def SamePixelData (s t : State) : Prop :=
  t.oq.mops = s.oq.mops ∧ t.oq.nextId = s.oq.nextId ∧ t.hsp = s.hsp ∧ t.msp.lastCommand = s.msp.lastCommand

theorem SamePixelData.refl (s : State) : SamePixelData s s := ⟨rfl, rfl, rfl, rfl⟩

/-- Taking a command sends no memory command. -/
theorem takeCommand_lastCommand (c : Instr) (s : State) :
    (takeCommand c s).msp.lastCommand = s.msp.lastCommand := by
  cases c with
  | setSurface p => exact congrArg MemorySide.lastCommand (setSurfaceReply_msp p s)
  | dropSurface k => exact congrArg MemorySide.lastCommand (dropSurfaceReply_msp k s)
  | readSurface k => exact congrArg MemorySide.lastCommand (readSurfaceReply_msp k s)
  | setWindow p => exact congrArg MemorySide.lastCommand (setWindowReply_msp p s)
  | openWindow i => exact congrArg MemorySide.lastCommand (openWindowReply_msp i s)
  | closeWindow i => exact congrArg MemorySide.lastCommand (closeWindowReply_msp i s)
  | resumeWindow i => exact congrArg MemorySide.lastCommand (resumeWindowReply_msp i s)
  | readWindow i => exact congrArg MemorySide.lastCommand (readWindowReply_msp i s)
  | clearAll => exact congrArg MemorySide.lastCommand (clearAllReply_msp s)
  | fence => exact congrArg MemorySide.lastCommand (fenceReply_msp s)
  | popFault => exact congrArg MemorySide.lastCommand (popFaultReply_msp s)
  | getStatus | configure | ackNotice | linkRecover | unknownCommand | requestHandshake | entryAnswered | issue
  | memoryResponse | expiry | smCsNFall | smCsNRise | resetNLow | resetNRelease | smSckRisingEdge => rfl

theorem samePixelData_takeCommand (c : Instr) (s : State) : SamePixelData s (takeCommand c s) :=
  have ⟨hmops, hnext, hhsp⟩ := takeCommand_queues c s
  ⟨hmops, hnext, hhsp, takeCommand_lastCommand c s⟩

theorem samePixelData_unlessReset {s : State} {f : State → State} (h : SamePixelData s (f s)) :
    SamePixelData s (unlessReset s f) := by
  unfold unlessReset
  split
  · exact h
  · exact .refl s

theorem samePixelData_completeCommandByte (code : Byte) (s : State) :
    SamePixelData s (completeCommandByte code { s with csN := false }) := by
  obtain ⟨-, h⟩ | h := completeCommandByte_cases code { s with csN := false }
  · rw [h]
    exact .refl s
  · rw [h]
    exact samePixelData_takeCommand _ { s with csN := false }

theorem samePixelData_clockEdge (di : Bool) (s : State) : SamePixelData s (clockEdge di s) := by
  obtain ⟨f, h⟩ | ⟨c, h⟩ := clockEdge_cases di s
  · rw [h]
    exact .refl s
  · rw [h]
    exact samePixelData_takeCommand c s

/-- A row that takes its command at once keeps pixel data. -/
theorem samePixelData_row {c : Instr} {s t : State} (h : exec c s = .next t)
    (hc : exec c s = .next (unlessReset s (takeCommand c))) : SamePixelData s t := by
  rw [hc] at h
  cases h
  exact samePixelData_unlessReset (samePixelData_takeCommand c s)

/-- The row of a management command, ill formed or not, keeps pixel data. -/
theorem samePixelData_exec_management {c : Instr} {s t : State} (hframe : (encodeFrame c).isSome = true)
    (h : exec c s = .next t) : SamePixelData s t := by
  cases c with
  | unknownCommand code => cases h; exact samePixelData_unlessReset (samePixelData_completeCommandByte code s)
  | getStatus | configure | ackNotice | setSurface | dropSurface | readSurface | setWindow | openWindow | closeWindow
  | resumeWindow | readWindow | fence | popFault | linkRecover | clearAll => exact samePixelData_row h rfl
  | requestHandshake | entryAnswered | issue | memoryResponse | expiry | smCsNFall | smCsNRise | resetNLow
  | resetNRelease | smSckRisingEdge => cases hframe

/-- Settles O48, by the row of a command and the edges of the two pins. -/
theorem managementMovesNoPixelData : Obligations.ManagementMovesNoPixelData := by
  rintro c s t (hframe | rfl | rfl | ⟨di, rfl⟩) h
  · exact samePixelData_exec_management hframe h
  · cases h
    show SamePixelData s (csFall s)
    unfold csFall
    split <;> exact .refl s
  · cases h
    show SamePixelData s (csRise s)
    unfold csRise
    split <;> exact .refl s
  · cases h
    refine samePixelData_unlessReset ?_
    split
    · exact .refl s
    · exact samePixelData_clockEdge di s

end Sys2Proof.Proofs
end

section
/-! PROOF. A frame bit by bit: the bits of a byte make that byte, the bytes of a frame lead to its command, and what a
command does depends on no frame receive state, so the serial link and the row of the command end in the same state. -/

namespace Sys2Proof.Proofs

open Sys2Proof.Machine Sys2Proof.Safety Sys2Proof.Claims

/-! ### Commands taken inside any frame -/

/-- The state inside a frame: this frame receive state, and SM_CS_N low. -/
def inFrame (f : Frame) (s : State) : State := { s with mgp := f, csN := false }

/-- The reply whose state is inside this frame. -/
def replyInFrame (f : Frame) (r : Reply) : Reply := { r with state := inFrame f r.state }

theorem inFrame_wt (f : Frame) (s : State) : (inFrame f s).wt = s.wt := rfl

theorem inFrame_window (f : Frame) (s : State) (i : Fin 16) : (inFrame f s).window i = s.window i := rfl

theorem inFrame_surface (f : Frame) (s : State) (k : Fin 8) : (inFrame f s).surface k = s.surface k := rfl

theorem inFrame_oq (f : Frame) (s : State) : (inFrame f s).oq = s.oq := rfl

theorem inFrame_fu (f : Frame) (s : State) : (inFrame f s).fu = s.fu := rfl

/-- The answer replaces the frame receive state that the command was taken in (R149). -/
theorem answer_eq_of_replyInFrame {code : Byte} {params : List Byte} {f : Frame} {r r' : Reply}
    (h : r' = replyInFrame f r) : answer code params r' = answer code params r := by
  rw [h]
  rfl

theorem done_inFrame (f : Frame) (s : State) (result : List Byte) :
    done (inFrame f s) result = replyInFrame f (done s result) := rfl

theorem setSurfaceReply_inFrame (f : Frame) (p : SurfaceParams) (s : State) :
    setSurfaceReply p (inFrame f s) = replyInFrame f (setSurfaceReply p s) := by
  simp only [setSurfaceReply, inFrame_wt, inFrame_surface, apply_ite (replyInFrame f)]
  cases checkSurface p with
  | none => rfl
  | some kd => simp only [apply_ite (replyInFrame f)]; rfl

theorem dropSurfaceReply_inFrame (f : Frame) (index : Byte) (s : State) :
    dropSurfaceReply index (inFrame f s) = replyInFrame f (dropSurfaceReply index s) := by
  simp only [dropSurfaceReply, inFrame_wt, inFrame_surface, apply_ite (replyInFrame f)]
  cases surfaceIndex index with
  | none => rfl
  | some k =>
    dsimp only
    cases s.surface k with
    | none => rfl
    | some d => simp only [apply_ite (replyInFrame f)]; rfl

theorem readSurfaceReply_inFrame (f : Frame) (index : Byte) (s : State) :
    readSurfaceReply index (inFrame f s) = replyInFrame f (readSurfaceReply index s) := by
  unfold readSurfaceReply
  cases surfaceIndex index <;> rfl

theorem setWindowReply_inFrame (f : Frame) (p : WindowParams) (s : State) :
    setWindowReply p (inFrame f s) = replyInFrame f (setWindowReply p s) := by
  simp only [setWindowReply, inFrame_wt, inFrame_window, apply_ite (replyInFrame f)]
  cases checkWindow p with
  | none => rfl
  | some iw => simp only [apply_ite (replyInFrame f)]; rfl

theorem openStaged_inFrame (f : Frame) (i : Fin 16) (s : State) :
    openStaged i (inFrame f s) = replyInFrame f (openStaged i s) := by
  simp only [openStaged, inFrame_wt, inFrame_window, inFrame_surface, apply_ite (replyInFrame f)]
  cases s.surface (s.window i).staged.surface with
  | none => rfl
  | some d => simp only [apply_ite (replyInFrame f)]; rfl

theorem openWindowReply_inFrame (f : Frame) (index : Byte) (s : State) :
    openWindowReply index (inFrame f s) = replyInFrame f (openWindowReply index s) := by
  simp only [openWindowReply, inFrame_wt, apply_ite (replyInFrame f)]
  cases windowIndex index with
  | none => rfl
  | some i => simp only [openStaged_inFrame]; rfl

theorem closeOpen_inFrame (f : Frame) (i : Fin 16) (s : State) :
    closeOpen i (inFrame f s) = inFrame f (closeOpen i s) := by
  simp only [closeOpen, inFrame_window, apply_ite (inFrame f)]
  rfl

theorem closeWindowReply_inFrame (f : Frame) (index : Byte) (s : State) :
    closeWindowReply index (inFrame f s) = replyInFrame f (closeWindowReply index s) := by
  simp only [closeWindowReply, inFrame_wt, inFrame_window, apply_ite (replyInFrame f)]
  cases windowIndex index with
  | none => rfl
  | some i => simp only [closeOpen_inFrame, apply_ite (replyInFrame f)]; rfl

theorem resumeWindowReply_inFrame (f : Frame) (index : Byte) (s : State) :
    resumeWindowReply index (inFrame f s) = replyInFrame f (resumeWindowReply index s) := by
  simp only [resumeWindowReply, inFrame_wt, inFrame_window, apply_ite (replyInFrame f)]
  cases windowIndex index with
  | none => rfl
  | some i => simp only [apply_ite (replyInFrame f)]; rfl

theorem readWindowReply_inFrame (f : Frame) (index : Byte) (s : State) :
    readWindowReply index (inFrame f s) = replyInFrame f (readWindowReply index s) := by
  unfold readWindowReply
  cases windowIndex index <;> rfl

theorem fenceReply_inFrame (f : Frame) (s : State) :
    fenceReply (inFrame f s) = replyInFrame f (fenceReply s) := by
  simp only [fenceReply, inFrame_oq, apply_ite (replyInFrame f)]
  cases s.oq.mops <;> rfl

theorem popFaultReply_inFrame (f : Frame) (s : State) :
    popFaultReply (inFrame f s) = replyInFrame f (popFaultReply s) := by
  simp only [popFaultReply, inFrame_fu]
  cases s.fu.log <;> rfl

theorem endClearAll_inFrame (f : Frame) (s : State) :
    endClearAll (inFrame f s) = inFrame f (endClearAll s) := by
  simp only [endClearAll, apply_ite (inFrame f)]
  rfl

theorem clearAllReply_inFrame (f : Frame) (s : State) :
    clearAllReply (inFrame f s) = replyInFrame f (clearAllReply s) := by
  have hstart : startClearAll (inFrame f s) = inFrame f (startClearAll s) := rfl
  cases hbusy : s.wt.clearAllPending with
  | true => rw [clearAllReply_busy hbusy, clearAllReply_busy (s := inFrame f s) hbusy]; rfl
  | false =>
    rw [clearAllReply_idle hbusy, clearAllReply_idle (s := inFrame f s) hbusy, hstart, endClearAll_inFrame,
      done_inFrame]

/-- What a management command does depends neither on the frame that it comes in nor on SM_CS_N (R149). -/
theorem takeCommand_inFrame {c : Instr} (hc : Management c) (f : Frame) (s : State) :
    takeCommand c (inFrame f s) = takeCommand c s := by
  obtain ⟨-, hframe⟩ := hc
  cases c with
  | setSurface p => exact answer_eq_of_replyInFrame (setSurfaceReply_inFrame f p s)
  | dropSurface k => exact answer_eq_of_replyInFrame (dropSurfaceReply_inFrame f k s)
  | readSurface k => exact answer_eq_of_replyInFrame (readSurfaceReply_inFrame f k s)
  | setWindow p => exact answer_eq_of_replyInFrame (setWindowReply_inFrame f p s)
  | openWindow i => exact answer_eq_of_replyInFrame (openWindowReply_inFrame f i s)
  | closeWindow i => exact answer_eq_of_replyInFrame (closeWindowReply_inFrame f i s)
  | resumeWindow i => exact answer_eq_of_replyInFrame (resumeWindowReply_inFrame f i s)
  | readWindow i => exact answer_eq_of_replyInFrame (readWindowReply_inFrame f i s)
  | fence => exact answer_eq_of_replyInFrame (fenceReply_inFrame f s)
  | popFault => exact answer_eq_of_replyInFrame (popFaultReply_inFrame f s)
  | clearAll => exact answer_eq_of_replyInFrame (clearAllReply_inFrame f s)
  | getStatus | configure | ackNotice | linkRecover | unknownCommand => rfl
  | requestHandshake | entryAnswered | issue | memoryResponse | expiry | smCsNFall | smCsNRise | resetNLow
  | resetNRelease | smSckRisingEdge => cases hframe

/-! ### The bits of a byte -/

/-- The bits of a byte in the order of the wire, most significant first (R147). -/
def byteBits (b : Byte) : List Bool := (List.range 8).map fun k => b.getLsbD (7 - k)

theorem wireByte_eq (b : Byte) : wireByte b = (byteBits b).map fun di => .smSckRisingEdge di := by
  simp only [wireByte, byteBits, List.map_map]
  rfl

/-- The bits of a byte, shifted in one after the other, make that byte (R147). -/
theorem foldl_nextShift_byteBits : ∀ b : Byte, (byteBits b).foldl nextShift 0#8 = b := by decide

/-- While a byte is being received edges count and shift in its bits (R147, R148). -/
theorem clockEdges_receiving (dis : List Bool) {s : State} (h : Receiving s.mgp)
    (hbits : s.mgp.bitCount + dis.length ≤ 7) :
    clockEdges dis s
      = s.withFrame
          { s.mgp with bitCount := s.mgp.bitCount + dis.length, shift := dis.foldl nextShift s.mgp.shift } := by
  induction dis generalizing s with
  | nil => rfl
  | cons di dis ih =>
    rw [List.length_cons] at hbits
    rw [clockEdges_cons, clockEdge_receiving h (by omega),
      ih (s := s.withFrame { s.mgp with bitCount := s.mgp.bitCount + 1, shift := nextShift s.mgp.shift di }) h
        (by simp only [withFrame_mgp]; omega)]
    simp only [State.withFrame, List.length_cons, List.foldl_cons, Nat.add_assoc, Nat.add_comm 1]

/-- The first seven bits of a byte leave its last bit to come, with which the byte completes (R148). -/
theorem clockEdges_byteBits (b : Byte) {s : State} (h : Receiving s.mgp) (hbits : s.mgp.bitCount = 0)
    (hshift : s.mgp.shift = 0#8) :
    ∃ shift di, nextShift shift di = b
      ∧ clockEdges (byteBits b) s = clockEdge di (s.withFrame { s.mgp with bitCount := 7, shift := shift }) := by
  obtain ⟨first, last, hsplit, hfirst⟩ := exists_eq_append_of_length_eight (dis := byteBits b) rfl
  refine ⟨first.foldl nextShift 0#8, last, ?_, ?_⟩
  · rw [← foldl_nextShift_byteBits b, hsplit, List.foldl_append]
    rfl
  · rw [hsplit, clockEdges_append, clockEdges_receiving first h (by omega), hbits, hshift, hfirst]
    rfl

/-! ### The bytes of a frame -/

/-- The frame receive state between two parameter bytes, with those received so far (R148). -/
def paramsReceived (code : Byte) (params : List Byte) : Frame := { expectParams code with params := params }

/-- The command byte, sent in a frame that has begun (R148). -/
theorem clockEdges_commandByte (code : Byte) (s : State) :
    clockEdges (byteBits code) (inFrame Frame.begun s)
      = if paramCount code = 0 then takeCommand (decodeFrame code []) s
        else inFrame (paramsReceived code []) s := by
  obtain ⟨shift, di, hlast, h⟩ := clockEdges_byteBits code (s := inFrame Frame.begun s) (.inl rfl) rfl rfl
  rw [h, clockEdge_command_last rfl rfl]
  simp only [withFrame_mgp, hlast]
  split
  case isTrue hnone =>
    rw [completeCommandByte_of_no_params hnone]
    exact takeCommand_inFrame (management_decodeFrame _ _) _ s
  case isFalse hsome =>
    rw [completeCommandByte_of_params hsome]
    rfl

/-- A parameter byte, sent between two bytes (R148). -/
theorem clockEdges_paramByte (code b : Byte) (params : List Byte) (s : State) :
    clockEdges (byteBits b) (inFrame (paramsReceived code params) s)
      = if (params ++ [b]).length = paramCount code then takeCommand (decodeFrame code (params ++ [b])) s
        else inFrame (paramsReceived code (params ++ [b])) s := by
  obtain ⟨shift, di, hlast, h⟩ :=
    clockEdges_byteBits b (s := inFrame (paramsReceived code params) s) (.inr rfl) rfl rfl
  rw [h, clockEdge_parameters_last rfl rfl]
  simp only [withFrame_mgp, hlast]
  split
  case isTrue hfull =>
    rw [completeParamByte_of_last rfl hfull]
    exact takeCommand_inFrame (management_decodeFrame _ _) _ s
  case isFalse hmore =>
    rw [completeParamByte_of_more rfl hmore]
    rfl

/-- The parameter bytes still to come lead to the command of the whole frame (R148). -/
theorem clockEdges_paramBytes {code : Byte} {rest : List Byte} (s : State) (hne : rest ≠ []) :
    ∀ params, (params ++ rest).length = paramCount code →
      clockEdges (rest.flatMap byteBits) (inFrame (paramsReceived code params) s)
        = takeCommand (decodeFrame code (params ++ rest)) s := by
  induction rest with
  | nil => exact absurd rfl hne
  | cons b rest ih =>
    intro params hlen
    rw [List.flatMap_cons, clockEdges_append, clockEdges_paramByte]
    cases rest with
    | nil => rw [if_pos hlen]; rfl
    | cons c rest =>
      have hmore : (params ++ [b]).length ≠ paramCount code := by
        rw [← hlen]
        simp
      rw [if_neg hmore, ih (List.cons_ne_nil c rest) (params ++ [b]) (by simpa using hlen), List.append_assoc]
      rfl

/-- The bytes of a frame lead to its command (R148). -/
theorem clockEdges_frame {code : Byte} {params : List Byte} (hlen : params.length = paramCount code) (s : State) :
    clockEdges ((code :: params).flatMap byteBits) (inFrame Frame.begun s)
      = takeCommand (decodeFrame code params) s := by
  rw [List.flatMap_cons, clockEdges_append, clockEdges_commandByte]
  cases params with
  | nil => rw [if_pos (show paramCount code = 0 from hlen.symm)]; rfl
  | cons b rest =>
    rw [if_neg (by rw [← hlen]; simp)]
    exact clockEdges_paramBytes s (List.cons_ne_nil b rest) [] hlen

/-- The law of each command: its frame has the parameter bytes that its command byte announces (R152, R153). -/
theorem frame_length (i : Instr) : Laws.FrameLength.Statement i := by
  cases i with
  | requestHandshake r => exact Laws.FrameLength.requestHandshake r
  | entryAnswered => exact Laws.FrameLength.entryAnswered
  | issue => exact Laws.FrameLength.issue
  | memoryResponse t st data => exact Laws.FrameLength.memoryResponse t st data
  | expiry t => exact Laws.FrameLength.expiry t
  | getStatus => exact Laws.FrameLength.getStatus
  | configure timeout enables => exact Laws.FrameLength.configure timeout enables
  | ackNotice mask => exact Laws.FrameLength.ackNotice mask
  | setSurface p => exact Laws.FrameLength.setSurface p
  | dropSurface index => exact Laws.FrameLength.dropSurface index
  | readSurface index => exact Laws.FrameLength.readSurface index
  | setWindow p => exact Laws.FrameLength.setWindow p
  | openWindow index => exact Laws.FrameLength.openWindow index
  | closeWindow index => exact Laws.FrameLength.closeWindow index
  | resumeWindow index => exact Laws.FrameLength.resumeWindow index
  | readWindow index => exact Laws.FrameLength.readWindow index
  | fence => exact Laws.FrameLength.fence
  | popFault => exact Laws.FrameLength.popFault
  | linkRecover => exact Laws.FrameLength.linkRecover
  | clearAll => exact Laws.FrameLength.clearAll
  | unknownCommand code => exact Laws.FrameLength.unknownCommand code
  | smCsNFall => exact Laws.FrameLength.smCsNFall
  | smCsNRise => exact Laws.FrameLength.smCsNRise
  | resetNLow => exact Laws.FrameLength.resetNLow
  | resetNRelease => exact Laws.FrameLength.resetNRelease
  | smSckRisingEdge di => exact Laws.FrameLength.smSckRisingEdge di

/-- Settles O4: the bytes of the frame lead to its command, which is read back and which the row takes. -/
theorem serialFrameEqualsCommandRow : Obligations.SerialFrameEqualsCommandRow := by
  intro i code params s hwell hframe hreset hcs
  have hfall : exec .smCsNFall s = .next (inFrame Frame.begun s) := by
    have hbegun : csFall s = inFrame Frame.begun s := by
      rw [csFall_of_high hcs, if_pos hreset]
      rfl
    exact congrArg Host.Outcome.next hbegun
  have hwire : (code :: params).flatMap wireByte
      = ((code :: params).flatMap byteBits).map fun di => .smSckRisingEdge di := by
    simp only [funext wireByte_eq, List.map_flatMap]
  rw [execAll, hfall, exec_management ⟨hwell, by rw [hframe]; rfl⟩ hreset]
  simp only [hwire]
  rw [execAll_smSckRisingEdge (s := inFrame Frame.begun s) _ hreset rfl,
    clockEdges_frame (frame_length i hwell code params hframe),
    frameDecodeInvertsEncode i code params hwell hframe]

end Sys2Proof.Proofs
end

section
/-! PROOF. A step with a command waiting: the front of the queue is taken and carried out. -/

namespace Sys2Proof.Proofs

open Sys2Proof.Machine

/-- A step whose queue has a front command is that command, carried out where only the rest waits. -/
theorem step_of_pending_cons {c : Instr} {rest : List Instr} {s : State} (hpending : s.pending = c :: rest) :
    step s = exec c { s with pending := rest } := by
  simp only [step, hpending]

/-- Settles O1: the front command leaves the queue that it was put on, and the state behind it is the one before. -/
theorem stepRunsFrontCommand : Obligations.StepRunsFrontCommand := by
  intro c s
  have htaken : { { s with pending := c :: s.pending } with pending := s.pending } = s := rfl
  calc step { s with pending := c :: s.pending }
      = exec c { { s with pending := c :: s.pending } with pending := s.pending } := step_of_pending_cons rfl
    _ = exec c s := by rw [htaken]

end Sys2Proof.Proofs
end
